-- ==== Sys2Proof/Word.lean ====
section
/-! DEFINITION. The two bit-vector types of the model: the byte memory is made of (spec/20_memory.md R50) and the
64-bit cell that holds a register or an address of any processor option (`W` and `AW` are at most 64,
spec/00_scope.md R3, R4). -/

namespace Sys2Proof

/-- One byte of memory or of an instruction (R50). -/
abbrev Byte := BitVec 8

/-- A register, an address or an operand: wide enough for the widest processor option (R3, R4). A value of a narrower
width stands in the low bits, with zeros above. -/
abbrev Word := BitVec 64

end Sys2Proof
end

