-- ==== Sys2Proof/Config.lean ====
section
/-! DEFINITION. The parameters of spec/00_scope.md R6: what a processor option or an open point of the source fixes before
launch and no instruction changes (R941). They stand in `Options`, a piece of plain data that the state carries unchanged,
so that every statement about every state holds for every processor option; and the one value the spec leaves open at every
use, `any_1()` (R8), stands in an opaque constant. -/

namespace Sys2Proof

/-- `W`, the register width: a processor option of 16, 32 or 64 bits (R3). -/
inductive RegWidth where
  | w16 | w32 | w64
  deriving DecidableEq, Repr

/-- `W` in bits (R3). -/
def RegWidth.bits : RegWidth → Nat
  | .w16 => 16
  | .w32 => 32
  | .w64 => 64

/-- `AW`, the natural address width: 16 to 64 bits, a multiple of 8 (R4, decision D2). -/
inductive AddrWidth where
  | aw16 | aw24 | aw32 | aw40 | aw48 | aw56 | aw64
  deriving DecidableEq, Repr

/-- `AW / 8`, the bytes of an address of natural width (R4, R171). -/
def AddrWidth.bytes : AddrWidth → Nat
  | .aw16 => 2
  | .aw24 => 3
  | .aw32 => 4
  | .aw40 => 5
  | .aw48 => 6
  | .aw56 => 7
  | .aw64 => 8

/-- `AW` in bits (R4). -/
def AddrWidth.bits (w : AddrWidth) : Nat := 8 * w.bytes

/-- The default of `AW` is `W` (R4, R6). -/
def RegWidth.defaultAddrWidth : RegWidth → AddrWidth
  | .w16 => .aw16
  | .w32 => .aw32
  | .w64 => .aw64

/-- `PCREL_BASE`: the address that OF=01 adds (R137, decision D11). -/
inductive PcrelBase where
  | firstByte | opcodeByte | nextInstruction
  deriving DecidableEq, Repr

/-- `STACK`: the stack discipline (R170, decision D13). -/
inductive StackDiscipline where
  | fullDescending | emptyDescending
  deriving DecidableEq, Repr

/-- `EXTMAP` (R96, decision D26) as its difference from the default table: a pair `(b, d)` says that EXT-page opcode `b`
carries the cell that the default table shows at `d`; an opcode that no pair names carries its own default cell. Since the
default table has empty positions, every assignment of cells to opcodes can be written so. -/
abbrev ExtMap := List (Byte × Byte)

/-- The parameters of R6 but for `translate` (the matchcodes of the state stand for it, R31, R32) and the launch state. -/
structure Options where
  regWidth : RegWidth
  addrWidth : AddrWidth
  hyp : Bool
  pcrelBase : Option PcrelBase
  stack : StackDiscipline
  extMap : ExtMap
  deriving DecidableEq, Repr

/-- The options of the machine that `State.reset` launches. R6 gives a default for every parameter but `W` (`HYP` true,
`PCREL_BASE` unset, a full descending stack, the default `EXTMAP`, `AW` = `W`); `W` = 64 is a DESIGN CHOICE (unsafe for a
statement about reset alone; notes/assumptions/1.md). -/
def Config.launchOptions : Options where
  regWidth := .w64
  addrWidth := RegWidth.w64.defaultAddrWidth
  hyp := true
  pcrelBase := none
  stack := .fullDescending
  extMap := []

/-- `any_1()` (R8, decision D36): a bit the sources do not fix. The argument numbers the draws, so two draws need not
agree. It has no body: no proof can use its value (safe; notes/assumptions/7.md). -/
opaque Config.freeBit : Nat → Bool

end Sys2Proof
end

