-- ==== Sys2Proof/Syntax.lean ====
section
/-! DEFINITION. The instructions of spec/opcode_table.json, one constructor per row, and the parts an instruction is made of:
the two prefix bytes (spec/30_encoding.md R80, R81), the opcode pages (R90) and the addressing modes
(spec/40_prefixes_and_addressing.md R132, R135 to R139). The 17 rows of the second prefix byte (its field row and the sixteen
column-B rows of R443) are the values of one constructor. Lean's compiler takes at most 244 constructors with arguments in
one inductive, and the table has more rows with an operand than that: the rows of PEA, and the memory rows of ASR, RDL and
RDR (all of them refused, decision D25), are the values of an argument `form` that has one value per row. -/

namespace Sys2Proof

/-- OF, the offset register of a prefix1 (R134): none, PC, the stack pointer, or BR. -/
inductive OffsetReg where
  | none | pc | sp | br
  deriving DecidableEq, Repr

/-- RS, the operation width (R150): 8, 16, 32 or 64 bits. -/
inductive OpSize where
  | b8 | b16 | b32 | b64
  deriving DecidableEq, Repr

/-- `n = 2^RS`, the operation width in bytes (R150). -/
def OpSize.bytes : OpSize → Nat
  | .b8 => 1
  | .b16 => 2
  | .b32 => 4
  | .b64 => 8

/-- LE, the load extension (R152): none (00), sign (01), zero (10), ones (11). -/
inductive LoadExt where
  | none | sign | zero | ones
  deriving DecidableEq, Repr

/-- The fields of a prefix1 byte (R80). -/
structure Prefix1 where
  of : OffsetReg
  rs : OpSize
  am : Bool
  deriving DecidableEq, Repr

/-- The fields of a prefix2 byte (R81). -/
structure Prefix2 where
  um : Bool
  le : LoadExt
  nf : Bool
  deriving DecidableEq, Repr

/-- The opcode page an opcode byte is looked up in (R90). -/
inductive Page where
  | std | ext
  deriving DecidableEq, Repr

/-- The decoder's record of one instruction (R85, R130): the prefix bytes seen so far and the page reached. -/
structure Context where
  prefix1 : Option Prefix1
  prefix2 : Option Prefix2
  page : Page
  deriving DecidableEq, Repr

/-- The record at the first byte of an instruction: every field cleared (R85). -/
def Context.start : Context := ⟨none, none, .std⟩

/-- OF: 00 when prefix1 is absent (R130). -/
def Context.of (c : Context) : OffsetReg := match c.prefix1 with | some p => p.of | none => .none
/-- RS: 00 when prefix1 is absent (R130). -/
def Context.rs (c : Context) : OpSize := match c.prefix1 with | some p => p.rs | none => .b8
/-- AM: 0 when prefix1 is absent (R130). -/
def Context.am (c : Context) : Bool := match c.prefix1 with | some p => p.am | none => false
/-- UM: 0 when prefix2 is absent (R130). -/
def Context.um (c : Context) : Bool := match c.prefix2 with | some p => p.um | none => false
/-- NF: 0 when prefix2 is absent (R130). -/
def Context.nf (c : Context) : Bool := match c.prefix2 with | some p => p.nf | none => false

/-- The addressing modes of the two pages, named as the tables write them (R92, R132): `ind…` are the `( )` modes, `quad…`
the `[[ ]]` modes, `indE` is `(E)`, `branch` the RS-sized offset, `relByte` and `relWide` the offsets of BSR, LEA, PEA. -/
inductive AddrMode where
  | implied | imm | trapCode
  | zp | zpX | zpY | abs | absX | absY | long
  | indZp | indZpX | indZpY | indAbs | indAbsX | indAbsY
  | quadZp | quadZpX | quadZpY | quadAbs | quadAbsX | quadAbsY
  | indE | branch | relByte | relWide
  deriving DecidableEq, Repr

/-- Why a byte sequence is no instruction (R98), by name. -/
inductive DecodeError where
  /-- The bytes given to the decoder end inside the instruction; a fetch from memory never does this. -/
  | truncated
  /-- A byte of prefix1 pattern in opcode position without a prefix1 that has AM=1 (R88, R98 c, decision D7). -/
  | duplicateOpcode (b : Byte)
  /-- A byte of prefix2 pattern directly after a prefix2 (R98 d, R443, decision D8). -/
  | secondPrefix2 (b : Byte)
  /-- An EXT-page opcode that `EXTMAP` assigns no cell (R98 a, decision D9). -/
  | extUnassigned (b : Byte)
  /-- A standard-page byte that the table gives no row; R95 shows that there is none. -/
  | noRow (b : Byte)
  deriving DecidableEq, Repr

/-- The twenty rows of PEA (R490 to R493, R498, R500, R501, R506 to R511, R519 to R525), by addressing mode. -/
inductive PeaForm where
  | indAbsY | relWide | indAbsX | indAbs | quadAbsY | quadAbsX | quadAbs | indZpX | relByte | zp
  | indZpY | indZp | zpX | quadZpY | abs | quadZpX | quadZp | zpY | absX | absY
  deriving DecidableEq, Repr

/-- The five memory rows with an operand that each of ASR, RDL and RDR has (R543 to R588), by addressing mode. -/
inductive ShiftForm where
  | zp | zpX | abs | absX | absY
  deriving DecidableEq, Repr

/-- The rows of spec/opcode_table.json. An operand is the value of the bytes after the opcode, lowest byte first (R93). -/
inductive Instr where
  /-- R80, R83: a prefix1 byte, `OF1 OF0 RS1 RS0 0 AM 1 1`. -/
  | prefix1 (f : Prefix1)
  /-- R81, R83, R443: a prefix2 byte, `UM LE1 LE0 NF 1 0 1 1`. -/
  | prefix2 (f : Prefix2)
  /-- R200: `ORA (zp,X)`, opcode 01. -/
  | oraIndZpX (op : Word)
  /-- R201: `ORA [[zp,X]]`, opcode 03. -/
  | oraQuadZpX (op : Word)
  /-- R202: `ORA zp`, opcode 05. -/
  | oraZp (op : Word)
  /-- R203: `ORA #byte`, opcode 09. -/
  | oraImm (op : Word)
  /-- R204: `ORA abs`, opcode 0D. -/
  | oraAbs (op : Word)
  /-- R205: `ORA (zp),Y`, opcode 11. -/
  | oraIndZpY (op : Word)
  /-- R206: `ORA (zp)`, opcode 12. -/
  | oraIndZp (op : Word)
  /-- R207: `ORA [[zp]],Y`, opcode 13. -/
  | oraQuadZpY (op : Word)
  /-- R208: `ORA zp,X`, opcode 15. -/
  | oraZpX (op : Word)
  /-- R209: `ORA [[zp]]`, opcode 17. -/
  | oraQuadZp (op : Word)
  /-- R210: `ORA abs,Y`, opcode 19. -/
  | oraAbsY (op : Word)
  /-- R211: `ORA abs,X`, opcode 1D. -/
  | oraAbsX (op : Word)
  /-- R212: `AND (zp,X)`, opcode 21. -/
  | andIndZpX (op : Word)
  /-- R213: `AND [[zp,X]]`, opcode 23. -/
  | andQuadZpX (op : Word)
  /-- R214: `AND zp`, opcode 25. -/
  | andZp (op : Word)
  /-- R215: `AND #byte`, opcode 29. -/
  | andImm (op : Word)
  /-- R216: `AND abs`, opcode 2D. -/
  | andAbs (op : Word)
  /-- R217: `AND (zp),Y`, opcode 31. -/
  | andIndZpY (op : Word)
  /-- R218: `AND (zp)`, opcode 32. -/
  | andIndZp (op : Word)
  /-- R219: `AND [[zp]],Y`, opcode 33. -/
  | andQuadZpY (op : Word)
  /-- R220: `AND zp,X`, opcode 35. -/
  | andZpX (op : Word)
  /-- R221: `AND [[zp]]`, opcode 37. -/
  | andQuadZp (op : Word)
  /-- R222: `AND abs,Y`, opcode 39. -/
  | andAbsY (op : Word)
  /-- R223: `AND abs,X`, opcode 3D. -/
  | andAbsX (op : Word)
  /-- R224: `EOR (zp,X)`, opcode 41. -/
  | eorIndZpX (op : Word)
  /-- R225: `EOR [[zp,X]]`, opcode 43. -/
  | eorQuadZpX (op : Word)
  /-- R226: `EOR zp`, opcode 45. -/
  | eorZp (op : Word)
  /-- R227: `EOR #byte`, opcode 49. -/
  | eorImm (op : Word)
  /-- R228: `EOR abs`, opcode 4D. -/
  | eorAbs (op : Word)
  /-- R229: `EOR (zp),Y`, opcode 51. -/
  | eorIndZpY (op : Word)
  /-- R230: `EOR (zp)`, opcode 52. -/
  | eorIndZp (op : Word)
  /-- R231: `EOR [[zp]],Y`, opcode 53. -/
  | eorQuadZpY (op : Word)
  /-- R232: `EOR zp,X`, opcode 55. -/
  | eorZpX (op : Word)
  /-- R233: `EOR [[zp]]`, opcode 57. -/
  | eorQuadZp (op : Word)
  /-- R234: `EOR abs,Y`, opcode 59. -/
  | eorAbsY (op : Word)
  /-- R235: `EOR abs,X`, opcode 5D. -/
  | eorAbsX (op : Word)
  /-- R240: `BIT zp`, opcode 24. -/
  | bitZp (op : Word)
  /-- R241: `BIT abs`, opcode 2C. -/
  | bitAbs (op : Word)
  /-- R242: `BIT zp,X`, opcode 34. -/
  | bitZpX (op : Word)
  /-- R243: `BIT abs,X`, opcode 3C. -/
  | bitAbsX (op : Word)
  /-- R244: `ADC (zp,X)`, opcode 61. -/
  | adcIndZpX (op : Word)
  /-- R245: `ADC [[zp,X]]`, opcode 63. -/
  | adcQuadZpX (op : Word)
  /-- R246: `ADC zp`, opcode 65. -/
  | adcZp (op : Word)
  /-- R247: `ADC #byte`, opcode 69. -/
  | adcImm (op : Word)
  /-- R248: `ADC abs`, opcode 6D. -/
  | adcAbs (op : Word)
  /-- R249: `ADC (zp),Y`, opcode 71. -/
  | adcIndZpY (op : Word)
  /-- R250: `ADC (zp)`, opcode 72. -/
  | adcIndZp (op : Word)
  /-- R251: `ADC [[zp]],Y`, opcode 73. -/
  | adcQuadZpY (op : Word)
  /-- R252: `ADC zp,X`, opcode 75. -/
  | adcZpX (op : Word)
  /-- R253: `ADC [[zp]]`, opcode 77. -/
  | adcQuadZp (op : Word)
  /-- R254: `ADC abs,Y`, opcode 79. -/
  | adcAbsY (op : Word)
  /-- R255: `ADC abs,X`, opcode 7D. -/
  | adcAbsX (op : Word)
  /-- R256: `BIT #byte`, opcode 89. -/
  | bitImm (op : Word)
  /-- R257: `CPY #byte`, opcode C0. -/
  | cpyImm (op : Word)
  /-- R258: `CMP (zp,X)`, opcode C1. -/
  | cmpIndZpX (op : Word)
  /-- R259: `CMP [[zp,X]]`, opcode C3. -/
  | cmpQuadZpX (op : Word)
  /-- R260: `CPY zp`, opcode C4. -/
  | cpyZp (op : Word)
  /-- R261: `CMP zp`, opcode C5. -/
  | cmpZp (op : Word)
  /-- R262: `CMP #byte`, opcode C9. -/
  | cmpImm (op : Word)
  /-- R263: `CPY abs`, opcode CC. -/
  | cpyAbs (op : Word)
  /-- R264: `CMP abs`, opcode CD. -/
  | cmpAbs (op : Word)
  /-- R265: `CMP (zp),Y`, opcode D1. -/
  | cmpIndZpY (op : Word)
  /-- R266: `CMP (zp)`, opcode D2. -/
  | cmpIndZp (op : Word)
  /-- R267: `CMP [[zp]],Y`, opcode D3. -/
  | cmpQuadZpY (op : Word)
  /-- R268: `CMP zp,X`, opcode D5. -/
  | cmpZpX (op : Word)
  /-- R269: `CMP [[zp]]`, opcode D7. -/
  | cmpQuadZp (op : Word)
  /-- R270: `CMP abs,Y`, opcode D9. -/
  | cmpAbsY (op : Word)
  /-- R271: `CMP abs,X`, opcode DD. -/
  | cmpAbsX (op : Word)
  /-- R272: `CPX #byte`, opcode E0. -/
  | cpxImm (op : Word)
  /-- R273: `SBC (zp,X)`, opcode E1. -/
  | sbcIndZpX (op : Word)
  /-- R274: `SBC [[zp,X]]`, opcode E3. -/
  | sbcQuadZpX (op : Word)
  /-- R275: `CPX zp`, opcode E4. -/
  | cpxZp (op : Word)
  /-- R276: `SBC zp`, opcode E5. -/
  | sbcZp (op : Word)
  /-- R277: `SBC #byte`, opcode E9. -/
  | sbcImm (op : Word)
  /-- R278: `CPX abs`, opcode EC. -/
  | cpxAbs (op : Word)
  /-- R279: `SBC abs`, opcode ED. -/
  | sbcAbs (op : Word)
  /-- R280: `SBC (zp),Y`, opcode F1. -/
  | sbcIndZpY (op : Word)
  /-- R281: `SBC (zp)`, opcode F2. -/
  | sbcIndZp (op : Word)
  /-- R282: `SBC [[zp]],Y`, opcode F3. -/
  | sbcQuadZpY (op : Word)
  /-- R283: `SBC zp,X`, opcode F5. -/
  | sbcZpX (op : Word)
  /-- R284: `SBC [[zp]]`, opcode F7. -/
  | sbcQuadZp (op : Word)
  /-- R285: `SBC abs,Y`, opcode F9. -/
  | sbcAbsY (op : Word)
  /-- R286: `SBC abs,X`, opcode FD. -/
  | sbcAbsX (op : Word)
  /-- R290: `LDA zp,Y`, opcode 02. -/
  | ldaZpY (op : Word)
  /-- R291: `STA zp,Y`, opcode 22. -/
  | staZpY (op : Word)
  /-- R292: `LDA (abs),Y`, opcode 42. -/
  | ldaIndAbsY (op : Word)
  /-- R293: `LDA [[abs]],Y`, opcode 47. -/
  | ldaQuadAbsY (op : Word)
  /-- R294: `LDA (abs,X)`, opcode 62. -/
  | ldaIndAbsX (op : Word)
  /-- R295: `STZ zp`, opcode 64. -/
  | stzZp (op : Word)
  /-- R296: `LDA [[abs,X]]`, opcode 67. -/
  | ldaQuadAbsX (op : Word)
  /-- R297: `STZ zp,X`, opcode 74. -/
  | stzZpX (op : Word)
  /-- R298: `STA (zp,X)`, opcode 81. -/
  | staIndZpX (op : Word)
  /-- R299: `STA [[zp,X]]`, opcode 83. -/
  | staQuadZpX (op : Word)
  /-- R300: `STY zp`, opcode 84. -/
  | styZp (op : Word)
  /-- R301: `STA zp`, opcode 85. -/
  | staZp (op : Word)
  /-- R302: `STX zp`, opcode 86. -/
  | stxZp (op : Word)
  /-- R303: `STY abs`, opcode 8C. -/
  | styAbs (op : Word)
  /-- R304: `STA abs`, opcode 8D. -/
  | staAbs (op : Word)
  /-- R305: `STX abs`, opcode 8E. -/
  | stxAbs (op : Word)
  /-- R306: `STA (zp),Y`, opcode 91. -/
  | staIndZpY (op : Word)
  /-- R307: `STA (zp)`, opcode 92. -/
  | staIndZp (op : Word)
  /-- R308: `STA [[zp]],Y`, opcode 93. -/
  | staQuadZpY (op : Word)
  /-- R309: `STY zp,X`, opcode 94. -/
  | styZpX (op : Word)
  /-- R310: `STA zp,X`, opcode 95. -/
  | staZpX (op : Word)
  /-- R311: `STX zp,Y`, opcode 96. -/
  | stxZpY (op : Word)
  /-- R312: `STA [[zp]]`, opcode 97. -/
  | staQuadZp (op : Word)
  /-- R313: `STA abs,Y`, opcode 99. -/
  | staAbsY (op : Word)
  /-- R314: `STZ abs`, opcode 9C. -/
  | stzAbs (op : Word)
  /-- R315: `STA abs,X`, opcode 9D. -/
  | staAbsX (op : Word)
  /-- R316: `STZ abs,X`, opcode 9E. -/
  | stzAbsX (op : Word)
  /-- R317: `LDY #byte`, opcode A0. -/
  | ldyImm (op : Word)
  /-- R318: `LDA (zp,X)`, opcode A1. -/
  | ldaIndZpX (op : Word)
  /-- R319: `LDX #byte`, opcode A2. -/
  | ldxImm (op : Word)
  /-- R320: `LDA [[zp,X]]`, opcode A3. -/
  | ldaQuadZpX (op : Word)
  /-- R321: `LDY zp`, opcode A4. -/
  | ldyZp (op : Word)
  /-- R322: `LDA zp`, opcode A5. -/
  | ldaZp (op : Word)
  /-- R323: `LDX zp`, opcode A6. -/
  | ldxZp (op : Word)
  /-- R324: `LDA #byte`, opcode A9. -/
  | ldaImm (op : Word)
  /-- R325: `LDY abs`, opcode AC. -/
  | ldyAbs (op : Word)
  /-- R326: `LDA abs`, opcode AD. -/
  | ldaAbs (op : Word)
  /-- R327: `LDX abs`, opcode AE. -/
  | ldxAbs (op : Word)
  /-- R328: `LDA (zp),Y`, opcode B1. -/
  | ldaIndZpY (op : Word)
  /-- R329: `LDA (zp)`, opcode B2. -/
  | ldaIndZp (op : Word)
  /-- R330: `LDA [[zp]],Y`, opcode B3. -/
  | ldaQuadZpY (op : Word)
  /-- R331: `LDY zp,X`, opcode B4. -/
  | ldyZpX (op : Word)
  /-- R332: `LDA zp,X`, opcode B5. -/
  | ldaZpX (op : Word)
  /-- R333: `LDX zp,Y`, opcode B6. -/
  | ldxZpY (op : Word)
  /-- R334: `LDA [[zp]]`, opcode B7. -/
  | ldaQuadZp (op : Word)
  /-- R335: `LDA abs,Y`, opcode B9. -/
  | ldaAbsY (op : Word)
  /-- R336: `LDY abs,X`, opcode BC. -/
  | ldyAbsX (op : Word)
  /-- R337: `LDA abs,X`, opcode BD. -/
  | ldaAbsX (op : Word)
  /-- R338: `LDX abs,Y`, opcode BE. -/
  | ldxAbsY (op : Word)
  /-- R339: `STA (abs),Y`, opcode C2. -/
  | staIndAbsY (op : Word)
  /-- R340: `STA [[abs]],Y`, opcode C7. -/
  | staQuadAbsY (op : Word)
  /-- R341: `STA (abs,X)`, opcode E2. -/
  | staIndAbsX (op : Word)
  /-- R342: `STA [[abs,X]]`, opcode E7. -/
  | staQuadAbsX (op : Word)
  /-- R370: `TSB zp`, opcode 04. -/
  | tsbZp (op : Word)
  /-- R371: `ASL zp`, opcode 06. -/
  | aslZp (op : Word)
  /-- R373: `TSB abs`, opcode 0C. -/
  | tsbAbs (op : Word)
  /-- R374: `ASL abs`, opcode 0E. -/
  | aslAbs (op : Word)
  /-- R375: `TRB zp`, opcode 14. -/
  | trbZp (op : Word)
  /-- R376: `ASL zp,X`, opcode 16. -/
  | aslZpX (op : Word)
  /-- R378: `TRB abs`, opcode 1C. -/
  | trbAbs (op : Word)
  /-- R379: `ASL abs,X`, opcode 1E. -/
  | aslAbsX (op : Word)
  /-- R380: `ROL zp`, opcode 26. -/
  | rolZp (op : Word)
  /-- R382: `ROL abs`, opcode 2E. -/
  | rolAbs (op : Word)
  /-- R383: `ROL zp,X`, opcode 36. -/
  | rolZpX (op : Word)
  /-- R385: `ROL abs,X`, opcode 3E. -/
  | rolAbsX (op : Word)
  /-- R386: `LSR zp`, opcode 46. -/
  | lsrZp (op : Word)
  /-- R388: `LSR abs`, opcode 4E. -/
  | lsrAbs (op : Word)
  /-- R389: `LSR zp,X`, opcode 56. -/
  | lsrZpX (op : Word)
  /-- R390: `LSR abs,X`, opcode 5E. -/
  | lsrAbsX (op : Word)
  /-- R391: `ROR zp`, opcode 66. -/
  | rorZp (op : Word)
  /-- R393: `ROR abs`, opcode 6E. -/
  | rorAbs (op : Word)
  /-- R394: `ROR zp,X`, opcode 76. -/
  | rorZpX (op : Word)
  /-- R395: `ROR abs,X`, opcode 7E. -/
  | rorAbsX (op : Word)
  /-- R397: `DEC zp`, opcode C6. -/
  | decZp (op : Word)
  /-- R400: `DEC abs`, opcode CE. -/
  | decAbs (op : Word)
  /-- R401: `DEC zp,X`, opcode D6. -/
  | decZpX (op : Word)
  /-- R402: `DEC abs,X`, opcode DE. -/
  | decAbsX (op : Word)
  /-- R403: `INC zp`, opcode E6. -/
  | incZp (op : Word)
  /-- R405: `INC abs`, opcode EE. -/
  | incAbs (op : Word)
  /-- R406: `INC zp,X`, opcode F6. -/
  | incZpX (op : Word)
  /-- R407: `INC abs,X`, opcode FE. -/
  | incAbsX (op : Word)
  /-- R410: `BRK #byte`, opcode 00. -/
  | brk (op : Word)
  /-- R411: `JMP [[abs]]`, opcode 07. -/
  | jmpQuadAbs (op : Word)
  /-- R412: `BPL rel`, opcode 10. -/
  | bpl (op : Word)
  /-- R414: `JSR abs`, opcode 20. -/
  | jsrAbs (op : Word)
  /-- R415: `JMP [[abs,X]]`, opcode 27. -/
  | jmpQuadAbsX (op : Word)
  /-- R416: `BMI rel`, opcode 30. -/
  | bmi (op : Word)
  /-- R419: `BSR relwide`, opcode 44. -/
  | bsrRelWide (op : Word)
  /-- R420: `JMP abs`, opcode 4C. -/
  | jmpAbs (op : Word)
  /-- R421: `BVC rel`, opcode 50. -/
  | bvc (op : Word)
  /-- R424: `JMP (abs)`, opcode 6C. -/
  | jmpIndAbs (op : Word)
  /-- R425: `BVS rel`, opcode 70. -/
  | bvs (op : Word)
  /-- R427: `JMP (abs,X)`, opcode 7C. -/
  | jmpIndAbsX (op : Word)
  /-- R428: `BRA rel`, opcode 80. -/
  | bra (op : Word)
  /-- R429: `BSR rel`, opcode 82. -/
  | bsrRelByte (op : Word)
  /-- R430: `JSR [[abs]]`, opcode 87. -/
  | jsrQuadAbs (op : Word)
  /-- R431: `BCC rel`, opcode 90. -/
  | bcc (op : Word)
  /-- R432: `JSR [[abs,X]]`, opcode A7. -/
  | jsrQuadAbsX (op : Word)
  /-- R433: `BCS rel`, opcode B0. -/
  | bcs (op : Word)
  /-- R435: `BNE rel`, opcode D0. -/
  | bne (op : Word)
  /-- R437: `JSR (abs)`, opcode DC. -/
  | jsrIndAbs (op : Word)
  /-- R439: `BEQ rel`, opcode F0. -/
  | beq (op : Word)
  /-- R440: `TRP #byte`, opcode F4. -/
  | trp (op : Word)
  /-- R442: `JSR (abs,X)`, opcode FC. -/
  | jsrIndAbsX (op : Word)
  /-- R453: `ASL abs,Y`, opcode 0F 0F. -/
  | aslAbsY (op : Word)
  /-- R458: `ROL abs,Y`, opcode 0F 2F. -/
  | rolAbsY (op : Word)
  /-- R463: `LSR abs,Y`, opcode 0F 4F. -/
  | lsrAbsY (op : Word)
  /-- R465: `JMP long`, opcode 0F 6C. -/
  | jmpLong (op : Word)
  /-- R467: `ROR abs,Y`, opcode 0F 6F. -/
  | rorAbsY (op : Word)
  /-- R471: `STY abs,X`, opcode 0F 8E. -/
  | styAbsX (op : Word)
  /-- R474: `STZ abs,Y`, opcode 0F 9F. -/
  | stzAbsY (op : Word)
  /-- R478: `STX abs,Y`, opcode 0F AF. -/
  | stxAbsY (op : Word)
  /-- R482: `DEC abs,Y`, opcode 0F CF. -/
  | decAbsY (op : Word)
  /-- R483: `JSR long`, opcode 0F DC. -/
  | jsrLong (op : Word)
  /-- R487: `INC abs,Y`, opcode 0F EF. -/
  | incAbsY (op : Word)
  /-- R490, R491, R492, R493, R498, R500, R501, R506, R507, R508, R509, R510, R511, R519, R520, R521, R522, R523, R524,
  R525: the rows of `PEA` with an operand. -/
  | pea (form : PeaForm) (op : Word)
  /-- R494: `LEA (abs),Y`, opcode 0F 21. -/
  | leaIndAbsY (op : Word)
  /-- R495: `LEA relwide`, opcode 0F 22. -/
  | leaRelWide (op : Word)
  /-- R496: `LEA (abs,X)`, opcode 0F 31. -/
  | leaIndAbsX (op : Word)
  /-- R497: `LEA (abs)`, opcode 0F 32. -/
  | leaIndAbs (op : Word)
  /-- R499: `LEA zp`, opcode 0F 46. -/
  | leaZp (op : Word)
  /-- R502: `LEA zp,X`, opcode 0F 56. -/
  | leaZpX (op : Word)
  /-- R503: `LEA [[abs]],Y`, opcode 0F 61. -/
  | leaQuadAbsY (op : Word)
  /-- R504: `LEA [[abs,X]]`, opcode 0F 71. -/
  | leaQuadAbsX (op : Word)
  /-- R505: `LEA [[abs]]`, opcode 0F 72. -/
  | leaQuadAbs (op : Word)
  /-- R512: `LEA (zp,X)`, opcode 0F A1. -/
  | leaIndZpX (op : Word)
  /-- R513: `LEA rel`, opcode 0F A2. -/
  | leaRelByte (op : Word)
  /-- R514: `LEA abs`, opcode 0F AE. -/
  | leaAbs (op : Word)
  /-- R515: `LEA (zp),Y`, opcode 0F B1. -/
  | leaIndZpY (op : Word)
  /-- R516: `LEA (zp)`, opcode 0F B2. -/
  | leaIndZp (op : Word)
  /-- R517: `LEA abs,X`, opcode 0F BE. -/
  | leaAbsX (op : Word)
  /-- R518: `LEA abs,Y`, opcode 0F BF. -/
  | leaAbsY (op : Word)
  /-- R526: `LEA [[zp]],Y`, opcode 0F E1. -/
  | leaQuadZpY (op : Word)
  /-- R527: `LEA [[zp,X]]`, opcode 0F F1. -/
  | leaQuadZpX (op : Word)
  /-- R528: `LEA [[zp]]`, opcode 0F F2. -/
  | leaQuadZp (op : Word)
  /-- R529: `LEA zp,Y`, opcode 0F F6. -/
  | leaZpY (op : Word)
  /-- R542: `ADD #byte`, opcode 0F 04. -/
  | addImm (op : Word)
  /-- R543, R546, R549, R551, R552: the rows of `ASR` with an operand. -/
  | asrMem (form : ShiftForm) (op : Word)
  /-- R547: `BEV rel`, opcode 0F 10. -/
  | bev (op : Word)
  /-- R554: `ADE #byte`, opcode 0F 24. -/
  | adeImm (op : Word)
  /-- R555, R559, R562, R566, R567: the rows of `RDL` with an operand. -/
  | rdlMem (form : ShiftForm) (op : Word)
  /-- R560: `BOD rel`, opcode 0F 30. -/
  | bod (op : Word)
  /-- R563: `LDE #byte`, opcode 0F 39. -/
  | lde (op : Word)
  /-- R569: `ADS #byte`, opcode 0F 44. -/
  | adsImm (op : Word)
  /-- R571: `BLTS rel`, opcode 0F 50. -/
  | blts (op : Word)
  /-- R575: `LDB #byte`, opcode 0F 59. -/
  | ldb (op : Word)
  /-- R577: `ADB #byte`, opcode 0F 64. -/
  | adbImm (op : Word)
  /-- R578, R581, R585, R587, R588: the rows of `RDR` with an operand. -/
  | rdrMem (form : ShiftForm) (op : Word)
  /-- R582: `BGES rel`, opcode 0F 70. -/
  | bges (op : Word)
  /-- R591: `SUB #byte`, opcode 0F 84. -/
  | subImm (op : Word)
  /-- R594: `BLE rel`, opcode 0F 90. -/
  | ble (op : Word)
  /-- R599: `SBE #byte`, opcode 0F A4. -/
  | sbeImm (op : Word)
  /-- R601: `BGT rel`, opcode 0F B0. -/
  | bgt (op : Word)
  /-- R607: `SBS #byte`, opcode 0F C4. -/
  | sbsImm (op : Word)
  /-- R610: `BLES rel`, opcode 0F D0. -/
  | bles (op : Word)
  /-- R615: `SBB #byte`, opcode 0F E4. -/
  | sbbImm (op : Word)
  /-- R619: `BGTS rel`, opcode 0F F0. -/
  | bgts (op : Word)
  /-- R350: `PHP`, opcode 08. -/
  | php
  /-- R351: `PLP`, opcode 28. -/
  | plp
  /-- R352: `PHA`, opcode 48. -/
  | pha
  /-- R353: `PHY`, opcode 5A. -/
  | phy
  /-- R354: `PLA`, opcode 68. -/
  | pla
  /-- R355: `PLY`, opcode 7A. -/
  | ply
  /-- R356: `TXA`, opcode 8A. -/
  | txa
  /-- R357: `TYA`, opcode 98. -/
  | tya
  /-- R358: `TXS`, opcode 9A. -/
  | txs
  /-- R359: `TAY`, opcode A8. -/
  | tay
  /-- R360: `TAX`, opcode AA. -/
  | tax
  /-- R361: `TSX`, opcode BA. -/
  | tsx
  /-- R362: `PHX`, opcode DA. -/
  | phx
  /-- R363: `PLX`, opcode FA. -/
  | plx
  /-- R372: `ASL`, opcode 0A. -/
  | aslAcc
  /-- R377: `INC`, opcode 1A. -/
  | incAcc
  /-- R381: `ROL`, opcode 2A. -/
  | rolAcc
  /-- R384: `DEC`, opcode 3A. -/
  | decAcc
  /-- R387: `LSR`, opcode 4A. -/
  | lsrAcc
  /-- R392: `ROR`, opcode 6A. -/
  | rorAcc
  /-- R396: `DEY`, opcode 88. -/
  | dey
  /-- R398: `INY`, opcode C8. -/
  | iny
  /-- R399: `DEX`, opcode CA. -/
  | dex
  /-- R404: `INX`, opcode E8. -/
  | inx
  /-- R413: `CLC`, opcode 18. -/
  | clc
  /-- R417: `SEC`, opcode 38. -/
  | sec
  /-- R418: `RTI`, opcode 40. -/
  | rti
  /-- R422: `CLI`, opcode 58. -/
  | cli
  /-- R423: `RTS`, opcode 60. -/
  | rts
  /-- R426: `SEI`, opcode 78. -/
  | sei
  /-- R434: `CLV`, opcode B8. -/
  | clv
  /-- R436: `CLD`, opcode D8. -/
  | cld
  /-- R438: `NOP`, opcode EA. -/
  | nop
  /-- R441: `SED`, opcode F8. -/
  | sed
  /-- R444: `EXT` page byte, opcode 0F. -/
  | extPage
  /-- R445: `SYS` page byte, opcode 2F. -/
  | sysPage
  /-- R446: `QUICK` page byte, opcode 4F. -/
  | quickPage
  /-- R447: reserved prefix cell, opcode 6F. -/
  | reserved6F
  /-- R447: reserved prefix cell, opcode 8F. -/
  | reserved8F
  /-- R447: reserved prefix cell, opcode 9F. -/
  | reserved9F
  /-- R447: reserved prefix cell, opcode AF. -/
  | reservedAF
  /-- R447: reserved prefix cell, opcode BF. -/
  | reservedBF
  /-- R447: reserved prefix cell, opcode CF. -/
  | reservedCF
  /-- R447: reserved prefix cell, opcode DF. -/
  | reservedDF
  /-- R447: reserved prefix cell, opcode EF. -/
  | reservedEF
  /-- R447: reserved prefix cell, opcode FF. -/
  | reservedFF
  /-- R448: empty cell, opcode 1F. -/
  | unassigned1F
  /-- R448: empty cell, opcode 3F. -/
  | unassigned3F
  /-- R448: empty cell, opcode 54. -/
  | unassigned54
  /-- R448: empty cell, opcode 5C. -/
  | unassigned5C
  /-- R448: empty cell, opcode 5F. -/
  | unassigned5F
  /-- R448: empty cell, opcode 7F. -/
  | unassigned7F
  /-- R448: empty cell, opcode D4. -/
  | unassignedD4
  /-- R450: `ORA (E)`, opcode 0F 09. -/
  | oraIndE
  /-- R451: `TSB (E)`, opcode 0F 0C. -/
  | tsbIndE
  /-- R452: `ASL (E)`, opcode 0F 0D. -/
  | aslIndE
  /-- R454: `TRB (E)`, opcode 0F 1C. -/
  | trbIndE
  /-- R455: `JSR (E)`, opcode 0F 20. -/
  | jsrIndE
  /-- R456: `AND (E)`, opcode 0F 29. -/
  | andIndE
  /-- R457: `ROL (E)`, opcode 0F 2D. -/
  | rolIndE
  /-- R459: `BIT A`, opcode 0F 33. -/
  | bitAcc
  /-- R460: `EOR (E)`, opcode 0F 49. -/
  | eorIndE
  /-- R461: `JMP (E)`, opcode 0F 4C. -/
  | jmpIndE
  /-- R462: `LSR (E)`, opcode 0F 4D. -/
  | lsrIndE
  /-- R464: `ADC (E)`, opcode 0F 69. -/
  | adcIndE
  /-- R466: `ROR (E)`, opcode 0F 6D. -/
  | rorIndE
  /-- R468: `BIT (E)`, opcode 0F 89. -/
  | bitIndE
  /-- R469: `STY (E)`, opcode 0F 8C. -/
  | styIndE
  /-- R470: `STA (E)`, opcode 0F 8D. -/
  | staIndE
  /-- R472: `STZ (E)`, opcode 0F 9C. -/
  | stzIndE
  /-- R473: `STX (E)`, opcode 0F 9D. -/
  | stxIndE
  /-- R475: `LDY (E)`, opcode 0F A0. -/
  | ldyIndE
  /-- R476: `LDA (E)`, opcode 0F A9. -/
  | ldaIndE
  /-- R477: `LDX (E)`, opcode 0F AD. -/
  | ldxIndE
  /-- R479: `CPY (E)`, opcode 0F C0. -/
  | cpyIndE
  /-- R480: `CMP (E)`, opcode 0F C9. -/
  | cmpIndE
  /-- R481: `DEC (E)`, opcode 0F CD. -/
  | decIndE
  /-- R484: `CPX (E)`, opcode 0F E0. -/
  | cpxIndE
  /-- R485: `SBC (E)`, opcode 0F E9. -/
  | sbcIndE
  /-- R486: `INC (E)`, opcode 0F ED. -/
  | incIndE
  /-- R540: `ADD (E)`, opcode 0F 00. -/
  | addIndE
  /-- R541: `MVN`, opcode 0F 03. -/
  | mvn
  /-- R544: `PHE`, opcode 0F 08. -/
  | phe
  /-- R545: `ASR`, opcode 0F 0A. -/
  | asr
  /-- R548: `MVP`, opcode 0F 13. -/
  | mvp
  /-- R550: `ASR (E)`, opcode 0F 1D. -/
  | asrIndE
  /-- R553: `FIL`, opcode 0F 23. -/
  | fil
  /-- R556: `PLE`, opcode 0F 28. -/
  | ple
  /-- R557: `RDL`, opcode 0F 2A. -/
  | rdl
  /-- R558: `SCA (E)`, opcode 0F 2C. -/
  | sca
  /-- R561: `ADE`, opcode 0F 34. -/
  | ade
  /-- R564: `LLA (E)`, opcode 0F 3C. -/
  | lla
  /-- R565: `RDL (E)`, opcode 0F 3D. -/
  | rdlIndE
  /-- R568: `PSH`, opcode 0F 43. -/
  | psh
  /-- R570: `PHB`, opcode 0F 48. -/
  | phb
  /-- R572: `PLL`, opcode 0F 53. -/
  | pll
  /-- R573: `ADS`, opcode 0F 54. -/
  | ads
  /-- R574: `PRB`, opcode 0F 58. -/
  | prb
  /-- R576: `RMB`, opcode 0F 63. -/
  | rmb
  /-- R579: `PLB`, opcode 0F 68. -/
  | plb
  /-- R580: `RDR`, opcode 0F 6A. -/
  | rdr
  /-- R583: `WMB`, opcode 0F 73. -/
  | wmb
  /-- R584: `ADB`, opcode 0F 74. -/
  | adb
  /-- R586: `RDR (E)`, opcode 0F 7D. -/
  | rdrIndE
  /-- R589: `SUB (E)`, opcode 0F 80. -/
  | subIndE
  /-- R590: `HBS`, opcode 0F 83. -/
  | hbs
  /-- R592: `TAE`, opcode 0F 88. -/
  | tae
  /-- R593: `TYS`, opcode 0F 8A. -/
  | tys
  /-- R595: `HBC`, opcode 0F 93. -/
  | hbc
  /-- R596: `TEA`, opcode 0F 98. -/
  | tea
  /-- R597: `SXY`, opcode 0F 9A. -/
  | sxy
  /-- R598: `INV`, opcode 0F A3. -/
  | inv
  /-- R600: `SAB`, opcode 0F A8. -/
  | sab
  /-- R602: `BCN`, opcode 0F B3. -/
  | bcn
  /-- R603: `SBE`, opcode 0F B4. -/
  | sbe
  /-- R604: `SEB`, opcode 0F B8. -/
  | seb
  /-- R605: `SAX`, opcode 0F BA. -/
  | sax
  /-- R606: `EXT`, opcode 0F C3. -/
  | extOp
  /-- R608: `TPA`, opcode 0F C8. -/
  | tpa
  /-- R609: `TSY`, opcode 0F CA. -/
  | tsy
  /-- R611: `SWP`, opcode 0F D3. -/
  | swp
  /-- R612: `SBS`, opcode 0F D4. -/
  | sbs
  /-- R613: `SAE`, opcode 0F D8. -/
  | sae
  /-- R614: `SAY`, opcode 0F DA. -/
  | say
  /-- R616: `TAB`, opcode 0F E8. -/
  | tab
  /-- R617: `TEB`, opcode 0F EA. -/
  | teb
  /-- R618: `RMB (E)`, opcode 0F EC. -/
  | rmbIndE
  /-- R620: `BSW`, opcode 0F F3. -/
  | bsw
  /-- R621: `SBB`, opcode 0F F4. -/
  | sbb
  /-- R622: `TBA`, opcode 0F F8. -/
  | tba
  /-- R623: `TBE`, opcode 0F FA. -/
  | tbe
  /-- R624: `WMB (E)`, opcode 0F FC. -/
  | wmbIndE
  deriving DecidableEq, Repr

end Sys2Proof
end

