-- ==== Sys2Proof/Decode.lean ====
section
/-! DEFINITION. From bytes to instructions and back (spec/30_encoding.md). A decoding unit is one prefix byte, the page byte
`0F`, or an opcode with its operand; `decode` reads one unit in the context of the units before it (R84, R85), and
`decodeInstruction` a whole instruction. The opcode pages are tables of rows, sixteen rows of one high nibble each, as R95
and R96 print them; R96's low nibbles are recovered, not read (notes/assumptions/12.md). The encoder follows the decoder. -/

namespace Sys2Proof

/-! ### Bytes and operands -/

/-- The value of `n` bytes, lowest byte first, and the bytes after them (R51, R52, R93). -/
def takeOperand : Nat → List Byte → Option (Word × List Byte)
  | 0, bs => some (0, bs)
  | _ + 1, [] => none
  | n + 1, b :: bs =>
    match takeOperand n bs with
    | some (v, rest) => some (b.setWidth 64 ||| v <<< 8, rest)
    | none => none

/-- The `n` bytes of an operand, lowest byte first (R51, R52). -/
def operandBytesLE : Nat → Word → List Byte
  | 0, _ => []
  | n + 1, v => v.setWidth 8 :: operandBytesLE n (v >>> 8)

/-- `OperandBytes(mode, am, rs)`, the number of bytes after the opcode (R92). `long` with AM=1 has no length in the source;
it is refused when executed (decision D27). -/
def AddrMode.operandBytes (mode : AddrMode) (am : Bool) (rs : OpSize) : Nat :=
  match mode with
  | .implied | .indE => 0
  | .imm | .branch => rs.bytes
  | .trapCode => 1
  | .zp | .zpX | .zpY => if am then 4 else 1
  | .abs | .absX | .absY => if am then 8 else 2
  | .indZp | .indZpX | .indZpY | .quadZp | .quadZpX | .quadZpY => 1
  | .indAbs | .indAbsX | .indAbsY | .quadAbs | .quadAbsX | .quadAbsY => 2
  | .relByte => if am then 4 else 1
  | .relWide => if am then 8 else 2
  | .long => 4

/-! ### The prefix bytes -/

/-- `is_prefix1(b) = (b & $0B) = $03` (R80). -/
def isPrefix1 (b : Byte) : Bool := b &&& 0x0B#8 == 0x03#8

/-- `is_prefix2(b) = (b & $0F) = $0B` (R81). -/
def isPrefix2 (b : Byte) : Bool := b &&& 0x0F#8 == 0x0B#8

/-- The two-bit value of an OF field (R134). -/
def OffsetReg.code : OffsetReg → Nat
  | .none => 0
  | .pc => 1
  | .sp => 2
  | .br => 3

/-- The OF field of a two-bit value (R134). -/
def OffsetReg.ofCode : Nat → OffsetReg
  | 0 => .none
  | 1 => .pc
  | 2 => .sp
  | _ => .br

/-- The two-bit value of an RS field (R150). -/
def OpSize.code : OpSize → Nat
  | .b8 => 0
  | .b16 => 1
  | .b32 => 2
  | .b64 => 3

/-- The RS field of a two-bit value (R150). -/
def OpSize.ofCode : Nat → OpSize
  | 0 => .b8
  | 1 => .b16
  | 2 => .b32
  | _ => .b64

/-- The two-bit value of an LE field (R152). -/
def LoadExt.code : LoadExt → Nat
  | .none => 0
  | .sign => 1
  | .zero => 2
  | .ones => 3

/-- The LE field of a two-bit value (R152). -/
def LoadExt.ofCode : Nat → LoadExt
  | 0 => .none
  | 1 => .sign
  | 2 => .zero
  | _ => .ones

/-- The fields of a prefix1 byte: `OF = byte[7:6]`, `RS = byte[5:4]`, `AM = byte[2]` (R80). -/
def Prefix1.ofByte (b : Byte) : Prefix1 where
  of := .ofCode (b.toNat / 64)
  rs := .ofCode (b.toNat / 16 % 4)
  am := b.getLsbD 2

/-- `prefix1 = OF·64 + RS·16 + AM·4 + 3` (R80). -/
def Prefix1.toByte (f : Prefix1) : Byte :=
  BitVec.ofNat 8 (f.of.code * 64 + f.rs.code * 16 + f.am.toNat * 4 + 3)

/-- The fields of a prefix2 byte: `UM = byte[7]`, `LE = byte[6:5]`, `NF = byte[4]` (R81). -/
def Prefix2.ofByte (b : Byte) : Prefix2 where
  um := b.getLsbD 7
  le := .ofCode (b.toNat / 32 % 4)
  nf := b.getLsbD 4

/-- `prefix2 = UM·128 + LE·32 + NF·16 + 11` (R81). -/
def Prefix2.toByte (f : Prefix2) : Byte :=
  BitVec.ofNat 8 (f.um.toNat * 128 + f.le.code * 32 + f.nf.toNat * 16 + 11)

/-- The byte that opens the EXT page (R90, R444). -/
def extPageByte : Byte := 0x0F#8

/-- The context after a unit that modifies what follows (a prefix byte or the page byte), or none if the unit is the
instruction's opcode (R83, R85, R444). -/
def Context.extend (c : Context) : Instr → Option Context
  | .prefix1 f => some { c with prefix1 := some f }
  | .prefix2 f => some { c with prefix2 := some f }
  | .extPage => some { c with page := .ext }
  | _ => none

/-! ### The opcode pages -/

/-- One cell of an opcode page: its opcode, its addressing mode, and the instruction with a given operand. -/
structure Row where
  opcode : Byte
  mode : AddrMode
  make : Word → Instr

/-- Standard page, row 0 (R95). -/
def stdRow0 : List Row := [
  ⟨0x00#8, .imm, .brk⟩,
  ⟨0x01#8, .indZpX, .oraIndZpX⟩,
  ⟨0x02#8, .zpY, .ldaZpY⟩,
  ⟨0x03#8, .quadZpX, .oraQuadZpX⟩,
  ⟨0x04#8, .zp, .tsbZp⟩,
  ⟨0x05#8, .zp, .oraZp⟩,
  ⟨0x06#8, .zp, .aslZp⟩,
  ⟨0x07#8, .quadAbs, .jmpQuadAbs⟩,
  ⟨0x08#8, .implied, fun _ => .php⟩,
  ⟨0x09#8, .imm, .oraImm⟩,
  ⟨0x0A#8, .implied, fun _ => .aslAcc⟩,
  ⟨0x0C#8, .abs, .tsbAbs⟩,
  ⟨0x0D#8, .abs, .oraAbs⟩,
  ⟨0x0E#8, .abs, .aslAbs⟩]

/-- Standard page, row 1 (R95). -/
def stdRow1 : List Row := [
  ⟨0x10#8, .branch, .bpl⟩,
  ⟨0x11#8, .indZpY, .oraIndZpY⟩,
  ⟨0x12#8, .indZp, .oraIndZp⟩,
  ⟨0x13#8, .quadZpY, .oraQuadZpY⟩,
  ⟨0x14#8, .zp, .trbZp⟩,
  ⟨0x15#8, .zpX, .oraZpX⟩,
  ⟨0x16#8, .zpX, .aslZpX⟩,
  ⟨0x17#8, .quadZp, .oraQuadZp⟩,
  ⟨0x18#8, .implied, fun _ => .clc⟩,
  ⟨0x19#8, .absY, .oraAbsY⟩,
  ⟨0x1A#8, .implied, fun _ => .incAcc⟩,
  ⟨0x1C#8, .abs, .trbAbs⟩,
  ⟨0x1D#8, .absX, .oraAbsX⟩,
  ⟨0x1E#8, .absX, .aslAbsX⟩,
  ⟨0x1F#8, .implied, fun _ => .unassigned1F⟩]

/-- Standard page, row 2 (R95). -/
def stdRow2 : List Row := [
  ⟨0x20#8, .abs, .jsrAbs⟩,
  ⟨0x21#8, .indZpX, .andIndZpX⟩,
  ⟨0x22#8, .zpY, .staZpY⟩,
  ⟨0x23#8, .quadZpX, .andQuadZpX⟩,
  ⟨0x24#8, .zp, .bitZp⟩,
  ⟨0x25#8, .zp, .andZp⟩,
  ⟨0x26#8, .zp, .rolZp⟩,
  ⟨0x27#8, .quadAbsX, .jmpQuadAbsX⟩,
  ⟨0x28#8, .implied, fun _ => .plp⟩,
  ⟨0x29#8, .imm, .andImm⟩,
  ⟨0x2A#8, .implied, fun _ => .rolAcc⟩,
  ⟨0x2C#8, .abs, .bitAbs⟩,
  ⟨0x2D#8, .abs, .andAbs⟩,
  ⟨0x2E#8, .abs, .rolAbs⟩,
  ⟨0x2F#8, .implied, fun _ => .sysPage⟩]

/-- Standard page, row 3 (R95). -/
def stdRow3 : List Row := [
  ⟨0x30#8, .branch, .bmi⟩,
  ⟨0x31#8, .indZpY, .andIndZpY⟩,
  ⟨0x32#8, .indZp, .andIndZp⟩,
  ⟨0x33#8, .quadZpY, .andQuadZpY⟩,
  ⟨0x34#8, .zpX, .bitZpX⟩,
  ⟨0x35#8, .zpX, .andZpX⟩,
  ⟨0x36#8, .zpX, .rolZpX⟩,
  ⟨0x37#8, .quadZp, .andQuadZp⟩,
  ⟨0x38#8, .implied, fun _ => .sec⟩,
  ⟨0x39#8, .absY, .andAbsY⟩,
  ⟨0x3A#8, .implied, fun _ => .decAcc⟩,
  ⟨0x3C#8, .absX, .bitAbsX⟩,
  ⟨0x3D#8, .absX, .andAbsX⟩,
  ⟨0x3E#8, .absX, .rolAbsX⟩,
  ⟨0x3F#8, .implied, fun _ => .unassigned3F⟩]

/-- Standard page, row 4 (R95). -/
def stdRow4 : List Row := [
  ⟨0x40#8, .implied, fun _ => .rti⟩,
  ⟨0x41#8, .indZpX, .eorIndZpX⟩,
  ⟨0x42#8, .indAbsY, .ldaIndAbsY⟩,
  ⟨0x43#8, .quadZpX, .eorQuadZpX⟩,
  ⟨0x44#8, .relWide, .bsrRelWide⟩,
  ⟨0x45#8, .zp, .eorZp⟩,
  ⟨0x46#8, .zp, .lsrZp⟩,
  ⟨0x47#8, .quadAbsY, .ldaQuadAbsY⟩,
  ⟨0x48#8, .implied, fun _ => .pha⟩,
  ⟨0x49#8, .imm, .eorImm⟩,
  ⟨0x4A#8, .implied, fun _ => .lsrAcc⟩,
  ⟨0x4C#8, .abs, .jmpAbs⟩,
  ⟨0x4D#8, .abs, .eorAbs⟩,
  ⟨0x4E#8, .abs, .lsrAbs⟩,
  ⟨0x4F#8, .implied, fun _ => .quickPage⟩]

/-- Standard page, row 5 (R95). -/
def stdRow5 : List Row := [
  ⟨0x50#8, .branch, .bvc⟩,
  ⟨0x51#8, .indZpY, .eorIndZpY⟩,
  ⟨0x52#8, .indZp, .eorIndZp⟩,
  ⟨0x53#8, .quadZpY, .eorQuadZpY⟩,
  ⟨0x54#8, .implied, fun _ => .unassigned54⟩,
  ⟨0x55#8, .zpX, .eorZpX⟩,
  ⟨0x56#8, .zpX, .lsrZpX⟩,
  ⟨0x57#8, .quadZp, .eorQuadZp⟩,
  ⟨0x58#8, .implied, fun _ => .cli⟩,
  ⟨0x59#8, .absY, .eorAbsY⟩,
  ⟨0x5A#8, .implied, fun _ => .phy⟩,
  ⟨0x5C#8, .implied, fun _ => .unassigned5C⟩,
  ⟨0x5D#8, .absX, .eorAbsX⟩,
  ⟨0x5E#8, .absX, .lsrAbsX⟩,
  ⟨0x5F#8, .implied, fun _ => .unassigned5F⟩]

/-- Standard page, row 6 (R95). -/
def stdRow6 : List Row := [
  ⟨0x60#8, .implied, fun _ => .rts⟩,
  ⟨0x61#8, .indZpX, .adcIndZpX⟩,
  ⟨0x62#8, .indAbsX, .ldaIndAbsX⟩,
  ⟨0x63#8, .quadZpX, .adcQuadZpX⟩,
  ⟨0x64#8, .zp, .stzZp⟩,
  ⟨0x65#8, .zp, .adcZp⟩,
  ⟨0x66#8, .zp, .rorZp⟩,
  ⟨0x67#8, .quadAbsX, .ldaQuadAbsX⟩,
  ⟨0x68#8, .implied, fun _ => .pla⟩,
  ⟨0x69#8, .imm, .adcImm⟩,
  ⟨0x6A#8, .implied, fun _ => .rorAcc⟩,
  ⟨0x6C#8, .indAbs, .jmpIndAbs⟩,
  ⟨0x6D#8, .abs, .adcAbs⟩,
  ⟨0x6E#8, .abs, .rorAbs⟩,
  ⟨0x6F#8, .implied, fun _ => .reserved6F⟩]

/-- Standard page, row 7 (R95). -/
def stdRow7 : List Row := [
  ⟨0x70#8, .branch, .bvs⟩,
  ⟨0x71#8, .indZpY, .adcIndZpY⟩,
  ⟨0x72#8, .indZp, .adcIndZp⟩,
  ⟨0x73#8, .quadZpY, .adcQuadZpY⟩,
  ⟨0x74#8, .zpX, .stzZpX⟩,
  ⟨0x75#8, .zpX, .adcZpX⟩,
  ⟨0x76#8, .zpX, .rorZpX⟩,
  ⟨0x77#8, .quadZp, .adcQuadZp⟩,
  ⟨0x78#8, .implied, fun _ => .sei⟩,
  ⟨0x79#8, .absY, .adcAbsY⟩,
  ⟨0x7A#8, .implied, fun _ => .ply⟩,
  ⟨0x7C#8, .indAbsX, .jmpIndAbsX⟩,
  ⟨0x7D#8, .absX, .adcAbsX⟩,
  ⟨0x7E#8, .absX, .rorAbsX⟩,
  ⟨0x7F#8, .implied, fun _ => .unassigned7F⟩]

/-- Standard page, row 8 (R95). -/
def stdRow8 : List Row := [
  ⟨0x80#8, .branch, .bra⟩,
  ⟨0x81#8, .indZpX, .staIndZpX⟩,
  ⟨0x82#8, .relByte, .bsrRelByte⟩,
  ⟨0x83#8, .quadZpX, .staQuadZpX⟩,
  ⟨0x84#8, .zp, .styZp⟩,
  ⟨0x85#8, .zp, .staZp⟩,
  ⟨0x86#8, .zp, .stxZp⟩,
  ⟨0x87#8, .quadAbs, .jsrQuadAbs⟩,
  ⟨0x88#8, .implied, fun _ => .dey⟩,
  ⟨0x89#8, .imm, .bitImm⟩,
  ⟨0x8A#8, .implied, fun _ => .txa⟩,
  ⟨0x8C#8, .abs, .styAbs⟩,
  ⟨0x8D#8, .abs, .staAbs⟩,
  ⟨0x8E#8, .abs, .stxAbs⟩,
  ⟨0x8F#8, .implied, fun _ => .reserved8F⟩]

/-- Standard page, row 9 (R95). -/
def stdRow9 : List Row := [
  ⟨0x90#8, .branch, .bcc⟩,
  ⟨0x91#8, .indZpY, .staIndZpY⟩,
  ⟨0x92#8, .indZp, .staIndZp⟩,
  ⟨0x93#8, .quadZpY, .staQuadZpY⟩,
  ⟨0x94#8, .zpX, .styZpX⟩,
  ⟨0x95#8, .zpX, .staZpX⟩,
  ⟨0x96#8, .zpY, .stxZpY⟩,
  ⟨0x97#8, .quadZp, .staQuadZp⟩,
  ⟨0x98#8, .implied, fun _ => .tya⟩,
  ⟨0x99#8, .absY, .staAbsY⟩,
  ⟨0x9A#8, .implied, fun _ => .txs⟩,
  ⟨0x9C#8, .abs, .stzAbs⟩,
  ⟨0x9D#8, .absX, .staAbsX⟩,
  ⟨0x9E#8, .absX, .stzAbsX⟩,
  ⟨0x9F#8, .implied, fun _ => .reserved9F⟩]

/-- Standard page, row A (R95). -/
def stdRowA : List Row := [
  ⟨0xA0#8, .imm, .ldyImm⟩,
  ⟨0xA1#8, .indZpX, .ldaIndZpX⟩,
  ⟨0xA2#8, .imm, .ldxImm⟩,
  ⟨0xA3#8, .quadZpX, .ldaQuadZpX⟩,
  ⟨0xA4#8, .zp, .ldyZp⟩,
  ⟨0xA5#8, .zp, .ldaZp⟩,
  ⟨0xA6#8, .zp, .ldxZp⟩,
  ⟨0xA7#8, .quadAbsX, .jsrQuadAbsX⟩,
  ⟨0xA8#8, .implied, fun _ => .tay⟩,
  ⟨0xA9#8, .imm, .ldaImm⟩,
  ⟨0xAA#8, .implied, fun _ => .tax⟩,
  ⟨0xAC#8, .abs, .ldyAbs⟩,
  ⟨0xAD#8, .abs, .ldaAbs⟩,
  ⟨0xAE#8, .abs, .ldxAbs⟩,
  ⟨0xAF#8, .implied, fun _ => .reservedAF⟩]

/-- Standard page, row B (R95). -/
def stdRowB : List Row := [
  ⟨0xB0#8, .branch, .bcs⟩,
  ⟨0xB1#8, .indZpY, .ldaIndZpY⟩,
  ⟨0xB2#8, .indZp, .ldaIndZp⟩,
  ⟨0xB3#8, .quadZpY, .ldaQuadZpY⟩,
  ⟨0xB4#8, .zpX, .ldyZpX⟩,
  ⟨0xB5#8, .zpX, .ldaZpX⟩,
  ⟨0xB6#8, .zpY, .ldxZpY⟩,
  ⟨0xB7#8, .quadZp, .ldaQuadZp⟩,
  ⟨0xB8#8, .implied, fun _ => .clv⟩,
  ⟨0xB9#8, .absY, .ldaAbsY⟩,
  ⟨0xBA#8, .implied, fun _ => .tsx⟩,
  ⟨0xBC#8, .absX, .ldyAbsX⟩,
  ⟨0xBD#8, .absX, .ldaAbsX⟩,
  ⟨0xBE#8, .absY, .ldxAbsY⟩,
  ⟨0xBF#8, .implied, fun _ => .reservedBF⟩]

/-- Standard page, row C (R95). -/
def stdRowC : List Row := [
  ⟨0xC0#8, .imm, .cpyImm⟩,
  ⟨0xC1#8, .indZpX, .cmpIndZpX⟩,
  ⟨0xC2#8, .indAbsY, .staIndAbsY⟩,
  ⟨0xC3#8, .quadZpX, .cmpQuadZpX⟩,
  ⟨0xC4#8, .zp, .cpyZp⟩,
  ⟨0xC5#8, .zp, .cmpZp⟩,
  ⟨0xC6#8, .zp, .decZp⟩,
  ⟨0xC7#8, .quadAbsY, .staQuadAbsY⟩,
  ⟨0xC8#8, .implied, fun _ => .iny⟩,
  ⟨0xC9#8, .imm, .cmpImm⟩,
  ⟨0xCA#8, .implied, fun _ => .dex⟩,
  ⟨0xCC#8, .abs, .cpyAbs⟩,
  ⟨0xCD#8, .abs, .cmpAbs⟩,
  ⟨0xCE#8, .abs, .decAbs⟩,
  ⟨0xCF#8, .implied, fun _ => .reservedCF⟩]

/-- Standard page, row D (R95). -/
def stdRowD : List Row := [
  ⟨0xD0#8, .branch, .bne⟩,
  ⟨0xD1#8, .indZpY, .cmpIndZpY⟩,
  ⟨0xD2#8, .indZp, .cmpIndZp⟩,
  ⟨0xD3#8, .quadZpY, .cmpQuadZpY⟩,
  ⟨0xD4#8, .implied, fun _ => .unassignedD4⟩,
  ⟨0xD5#8, .zpX, .cmpZpX⟩,
  ⟨0xD6#8, .zpX, .decZpX⟩,
  ⟨0xD7#8, .quadZp, .cmpQuadZp⟩,
  ⟨0xD8#8, .implied, fun _ => .cld⟩,
  ⟨0xD9#8, .absY, .cmpAbsY⟩,
  ⟨0xDA#8, .implied, fun _ => .phx⟩,
  ⟨0xDC#8, .indAbs, .jsrIndAbs⟩,
  ⟨0xDD#8, .absX, .cmpAbsX⟩,
  ⟨0xDE#8, .absX, .decAbsX⟩,
  ⟨0xDF#8, .implied, fun _ => .reservedDF⟩]

/-- Standard page, row E (R95). -/
def stdRowE : List Row := [
  ⟨0xE0#8, .imm, .cpxImm⟩,
  ⟨0xE1#8, .indZpX, .sbcIndZpX⟩,
  ⟨0xE2#8, .indAbsX, .staIndAbsX⟩,
  ⟨0xE3#8, .quadZpX, .sbcQuadZpX⟩,
  ⟨0xE4#8, .zp, .cpxZp⟩,
  ⟨0xE5#8, .zp, .sbcZp⟩,
  ⟨0xE6#8, .zp, .incZp⟩,
  ⟨0xE7#8, .quadAbsX, .staQuadAbsX⟩,
  ⟨0xE8#8, .implied, fun _ => .inx⟩,
  ⟨0xE9#8, .imm, .sbcImm⟩,
  ⟨0xEA#8, .implied, fun _ => .nop⟩,
  ⟨0xEC#8, .abs, .cpxAbs⟩,
  ⟨0xED#8, .abs, .sbcAbs⟩,
  ⟨0xEE#8, .abs, .incAbs⟩,
  ⟨0xEF#8, .implied, fun _ => .reservedEF⟩]

/-- Standard page, row F (R95). -/
def stdRowF : List Row := [
  ⟨0xF0#8, .branch, .beq⟩,
  ⟨0xF1#8, .indZpY, .sbcIndZpY⟩,
  ⟨0xF2#8, .indZp, .sbcIndZp⟩,
  ⟨0xF3#8, .quadZpY, .sbcQuadZpY⟩,
  ⟨0xF4#8, .trapCode, .trp⟩,
  ⟨0xF5#8, .zpX, .sbcZpX⟩,
  ⟨0xF6#8, .zpX, .incZpX⟩,
  ⟨0xF7#8, .quadZp, .sbcQuadZp⟩,
  ⟨0xF8#8, .implied, fun _ => .sed⟩,
  ⟨0xF9#8, .absY, .sbcAbsY⟩,
  ⟨0xFA#8, .implied, fun _ => .plx⟩,
  ⟨0xFC#8, .indAbsX, .jsrIndAbsX⟩,
  ⟨0xFD#8, .absX, .sbcAbsX⟩,
  ⟨0xFE#8, .absX, .incAbsX⟩,
  ⟨0xFF#8, .implied, fun _ => .reservedFF⟩]

/-- The standard page's row of a high nibble (R95). -/
def stdRow : Nat → List Row
  | 0 => stdRow0
  | 1 => stdRow1
  | 2 => stdRow2
  | 3 => stdRow3
  | 4 => stdRow4
  | 5 => stdRow5
  | 6 => stdRow6
  | 7 => stdRow7
  | 8 => stdRow8
  | 9 => stdRow9
  | 10 => stdRowA
  | 11 => stdRowB
  | 12 => stdRowC
  | 13 => stdRowD
  | 14 => stdRowE
  | 15 => stdRowF
  | _ => []

/-- EXT page, row 0 (R96). -/
def extRow0 : List Row := [
  ⟨0x00#8, .indE, fun _ => .addIndE⟩,
  ⟨0x01#8, .indAbsY, .pea .indAbsY⟩,
  ⟨0x02#8, .relWide, .pea .relWide⟩,
  ⟨0x03#8, .implied, fun _ => .mvn⟩,
  ⟨0x04#8, .imm, .addImm⟩,
  ⟨0x06#8, .zp, .asrMem .zp⟩,
  ⟨0x08#8, .implied, fun _ => .phe⟩,
  ⟨0x09#8, .indE, fun _ => .oraIndE⟩,
  ⟨0x0A#8, .implied, fun _ => .asr⟩,
  ⟨0x0C#8, .indE, fun _ => .tsbIndE⟩,
  ⟨0x0D#8, .indE, fun _ => .aslIndE⟩,
  ⟨0x0E#8, .abs, .asrMem .abs⟩,
  ⟨0x0F#8, .absY, .aslAbsY⟩]

/-- EXT page, row 1 (R96). -/
def extRow1 : List Row := [
  ⟨0x10#8, .branch, .bev⟩,
  ⟨0x11#8, .indAbsX, .pea .indAbsX⟩,
  ⟨0x12#8, .indAbs, .pea .indAbs⟩,
  ⟨0x13#8, .implied, fun _ => .mvp⟩,
  ⟨0x16#8, .zpX, .asrMem .zpX⟩,
  ⟨0x1C#8, .indE, fun _ => .trbIndE⟩,
  ⟨0x1D#8, .indE, fun _ => .asrIndE⟩,
  ⟨0x1E#8, .absX, .asrMem .absX⟩,
  ⟨0x1F#8, .absY, .asrMem .absY⟩]

/-- EXT page, row 2 (R96). -/
def extRow2 : List Row := [
  ⟨0x20#8, .indE, fun _ => .jsrIndE⟩,
  ⟨0x21#8, .indAbsY, .leaIndAbsY⟩,
  ⟨0x22#8, .relWide, .leaRelWide⟩,
  ⟨0x23#8, .implied, fun _ => .fil⟩,
  ⟨0x24#8, .imm, .adeImm⟩,
  ⟨0x26#8, .zp, .rdlMem .zp⟩,
  ⟨0x28#8, .implied, fun _ => .ple⟩,
  ⟨0x29#8, .indE, fun _ => .andIndE⟩,
  ⟨0x2A#8, .implied, fun _ => .rdl⟩,
  ⟨0x2C#8, .indE, fun _ => .sca⟩,
  ⟨0x2D#8, .indE, fun _ => .rolIndE⟩,
  ⟨0x2E#8, .abs, .rdlMem .abs⟩,
  ⟨0x2F#8, .absY, .rolAbsY⟩]

/-- EXT page, row 3 (R96). -/
def extRow3 : List Row := [
  ⟨0x30#8, .branch, .bod⟩,
  ⟨0x31#8, .indAbsX, .leaIndAbsX⟩,
  ⟨0x32#8, .indAbs, .leaIndAbs⟩,
  ⟨0x33#8, .implied, fun _ => .bitAcc⟩,
  ⟨0x34#8, .implied, fun _ => .ade⟩,
  ⟨0x36#8, .zpX, .rdlMem .zpX⟩,
  ⟨0x39#8, .imm, .lde⟩,
  ⟨0x3C#8, .indE, fun _ => .lla⟩,
  ⟨0x3D#8, .indE, fun _ => .rdlIndE⟩,
  ⟨0x3E#8, .absX, .rdlMem .absX⟩,
  ⟨0x3F#8, .absY, .rdlMem .absY⟩]

/-- EXT page, row 4 (R96). -/
def extRow4 : List Row := [
  ⟨0x41#8, .quadAbsY, .pea .quadAbsY⟩,
  ⟨0x43#8, .implied, fun _ => .psh⟩,
  ⟨0x44#8, .imm, .adsImm⟩,
  ⟨0x46#8, .zp, .leaZp⟩,
  ⟨0x48#8, .implied, fun _ => .phb⟩,
  ⟨0x49#8, .indE, fun _ => .eorIndE⟩,
  ⟨0x4C#8, .indE, fun _ => .jmpIndE⟩,
  ⟨0x4D#8, .indE, fun _ => .lsrIndE⟩,
  ⟨0x4F#8, .absY, .lsrAbsY⟩]

/-- EXT page, row 5 (R96). -/
def extRow5 : List Row := [
  ⟨0x50#8, .branch, .blts⟩,
  ⟨0x51#8, .quadAbsX, .pea .quadAbsX⟩,
  ⟨0x52#8, .quadAbs, .pea .quadAbs⟩,
  ⟨0x53#8, .implied, fun _ => .pll⟩,
  ⟨0x54#8, .implied, fun _ => .ads⟩,
  ⟨0x56#8, .zpX, .leaZpX⟩,
  ⟨0x58#8, .implied, fun _ => .prb⟩,
  ⟨0x59#8, .imm, .ldb⟩]

/-- EXT page, row 6 (R96). -/
def extRow6 : List Row := [
  ⟨0x61#8, .quadAbsY, .leaQuadAbsY⟩,
  ⟨0x63#8, .implied, fun _ => .rmb⟩,
  ⟨0x64#8, .imm, .adbImm⟩,
  ⟨0x66#8, .zp, .rdrMem .zp⟩,
  ⟨0x68#8, .implied, fun _ => .plb⟩,
  ⟨0x69#8, .indE, fun _ => .adcIndE⟩,
  ⟨0x6A#8, .implied, fun _ => .rdr⟩,
  ⟨0x6C#8, .long, .jmpLong⟩,
  ⟨0x6D#8, .indE, fun _ => .rorIndE⟩,
  ⟨0x6E#8, .abs, .rdrMem .abs⟩,
  ⟨0x6F#8, .absY, .rorAbsY⟩]

/-- EXT page, row 7 (R96). -/
def extRow7 : List Row := [
  ⟨0x70#8, .branch, .bges⟩,
  ⟨0x71#8, .quadAbsX, .leaQuadAbsX⟩,
  ⟨0x72#8, .quadAbs, .leaQuadAbs⟩,
  ⟨0x73#8, .implied, fun _ => .wmb⟩,
  ⟨0x74#8, .implied, fun _ => .adb⟩,
  ⟨0x76#8, .zpX, .rdrMem .zpX⟩,
  ⟨0x7D#8, .indE, fun _ => .rdrIndE⟩,
  ⟨0x7E#8, .absX, .rdrMem .absX⟩,
  ⟨0x7F#8, .absY, .rdrMem .absY⟩]

/-- EXT page, row 8 (R96). -/
def extRow8 : List Row := [
  ⟨0x80#8, .indE, fun _ => .subIndE⟩,
  ⟨0x81#8, .indZpX, .pea .indZpX⟩,
  ⟨0x82#8, .relByte, .pea .relByte⟩,
  ⟨0x83#8, .implied, fun _ => .hbs⟩,
  ⟨0x84#8, .imm, .subImm⟩,
  ⟨0x86#8, .zp, .pea .zp⟩,
  ⟨0x88#8, .implied, fun _ => .tae⟩,
  ⟨0x89#8, .indE, fun _ => .bitIndE⟩,
  ⟨0x8A#8, .implied, fun _ => .tys⟩,
  ⟨0x8C#8, .indE, fun _ => .styIndE⟩,
  ⟨0x8D#8, .indE, fun _ => .staIndE⟩,
  ⟨0x8E#8, .absX, .styAbsX⟩]

/-- EXT page, row 9 (R96). -/
def extRow9 : List Row := [
  ⟨0x90#8, .branch, .ble⟩,
  ⟨0x91#8, .indZpY, .pea .indZpY⟩,
  ⟨0x92#8, .indZp, .pea .indZp⟩,
  ⟨0x93#8, .implied, fun _ => .hbc⟩,
  ⟨0x96#8, .zpX, .pea .zpX⟩,
  ⟨0x98#8, .implied, fun _ => .tea⟩,
  ⟨0x9A#8, .implied, fun _ => .sxy⟩,
  ⟨0x9C#8, .indE, fun _ => .stzIndE⟩,
  ⟨0x9D#8, .indE, fun _ => .stxIndE⟩,
  ⟨0x9F#8, .absY, .stzAbsY⟩]

/-- EXT page, row A (R96). -/
def extRowA : List Row := [
  ⟨0xA0#8, .indE, fun _ => .ldyIndE⟩,
  ⟨0xA1#8, .indZpX, .leaIndZpX⟩,
  ⟨0xA2#8, .relByte, .leaRelByte⟩,
  ⟨0xA3#8, .implied, fun _ => .inv⟩,
  ⟨0xA4#8, .imm, .sbeImm⟩,
  ⟨0xA8#8, .implied, fun _ => .sab⟩,
  ⟨0xA9#8, .indE, fun _ => .ldaIndE⟩,
  ⟨0xAD#8, .indE, fun _ => .ldxIndE⟩,
  ⟨0xAE#8, .abs, .leaAbs⟩,
  ⟨0xAF#8, .absY, .stxAbsY⟩]

/-- EXT page, row B (R96). -/
def extRowB : List Row := [
  ⟨0xB0#8, .branch, .bgt⟩,
  ⟨0xB1#8, .indZpY, .leaIndZpY⟩,
  ⟨0xB2#8, .indZp, .leaIndZp⟩,
  ⟨0xB3#8, .implied, fun _ => .bcn⟩,
  ⟨0xB4#8, .implied, fun _ => .sbe⟩,
  ⟨0xB8#8, .implied, fun _ => .seb⟩,
  ⟨0xBA#8, .implied, fun _ => .sax⟩,
  ⟨0xBE#8, .absX, .leaAbsX⟩,
  ⟨0xBF#8, .absY, .leaAbsY⟩]

/-- EXT page, row C (R96). -/
def extRowC : List Row := [
  ⟨0xC0#8, .indE, fun _ => .cpyIndE⟩,
  ⟨0xC1#8, .quadZpY, .pea .quadZpY⟩,
  ⟨0xC3#8, .implied, fun _ => .extOp⟩,
  ⟨0xC4#8, .imm, .sbsImm⟩,
  ⟨0xC8#8, .implied, fun _ => .tpa⟩,
  ⟨0xC9#8, .indE, fun _ => .cmpIndE⟩,
  ⟨0xCA#8, .implied, fun _ => .tsy⟩,
  ⟨0xCD#8, .indE, fun _ => .decIndE⟩,
  ⟨0xCE#8, .abs, .pea .abs⟩,
  ⟨0xCF#8, .absY, .decAbsY⟩]

/-- EXT page, row D (R96). -/
def extRowD : List Row := [
  ⟨0xD0#8, .branch, .bles⟩,
  ⟨0xD1#8, .quadZpX, .pea .quadZpX⟩,
  ⟨0xD2#8, .quadZp, .pea .quadZp⟩,
  ⟨0xD3#8, .implied, fun _ => .swp⟩,
  ⟨0xD4#8, .implied, fun _ => .sbs⟩,
  ⟨0xD6#8, .zpY, .pea .zpY⟩,
  ⟨0xD8#8, .implied, fun _ => .sae⟩,
  ⟨0xDA#8, .implied, fun _ => .say⟩,
  ⟨0xDC#8, .long, .jsrLong⟩,
  ⟨0xDE#8, .absX, .pea .absX⟩,
  ⟨0xDF#8, .absY, .pea .absY⟩]

/-- EXT page, row E (R96). -/
def extRowE : List Row := [
  ⟨0xE0#8, .indE, fun _ => .cpxIndE⟩,
  ⟨0xE1#8, .quadZpY, .leaQuadZpY⟩,
  ⟨0xE4#8, .imm, .sbbImm⟩,
  ⟨0xE8#8, .implied, fun _ => .tab⟩,
  ⟨0xE9#8, .indE, fun _ => .sbcIndE⟩,
  ⟨0xEA#8, .implied, fun _ => .teb⟩,
  ⟨0xEC#8, .indE, fun _ => .rmbIndE⟩,
  ⟨0xED#8, .indE, fun _ => .incIndE⟩,
  ⟨0xEF#8, .absY, .incAbsY⟩]

/-- EXT page, row F (R96). -/
def extRowF : List Row := [
  ⟨0xF0#8, .branch, .bgts⟩,
  ⟨0xF1#8, .quadZpX, .leaQuadZpX⟩,
  ⟨0xF2#8, .quadZp, .leaQuadZp⟩,
  ⟨0xF3#8, .implied, fun _ => .bsw⟩,
  ⟨0xF4#8, .implied, fun _ => .sbb⟩,
  ⟨0xF6#8, .zpY, .leaZpY⟩,
  ⟨0xF8#8, .implied, fun _ => .tba⟩,
  ⟨0xFA#8, .implied, fun _ => .tbe⟩,
  ⟨0xFC#8, .indE, fun _ => .wmbIndE⟩]

/-- The EXT page's row of a high nibble (R96). -/
def extRow : Nat → List Row
  | 0 => extRow0
  | 1 => extRow1
  | 2 => extRow2
  | 3 => extRow3
  | 4 => extRow4
  | 5 => extRow5
  | 6 => extRow6
  | 7 => extRow7
  | 8 => extRow8
  | 9 => extRow9
  | 10 => extRowA
  | 11 => extRowB
  | 12 => extRowC
  | 13 => extRowD
  | 14 => extRowE
  | 15 => extRowF
  | _ => []

/-- The row of a list that carries opcode `b`. -/
def findRow : List Row → Byte → Option Row
  | [], _ => none
  | r :: rs, b => if r.opcode = b then some r else findRow rs b

/-- The default cell that EXT-page opcode `b` carries under the parameter `EXTMAP`, named by its default opcode (R96). -/
def ExtMap.slot (m : ExtMap) (b : Byte) : Byte := (m.lookup b).getD b

/-- The EXT-page opcode that carries the cell whose default opcode is `d`: the lowest one, if any does. -/
def ExtMap.opcodeFor (m : ExtMap) (d : Byte) : Byte :=
  (((List.range 256).map (BitVec.ofNat 8)).find? (fun b => m.slot b == d)).getD d

/-- `lookup(page, b)` (R85). -/
def lookupRow (m : ExtMap) (page : Page) (b : Byte) : Option Row :=
  match page with
  | .std => findRow (stdRow (b.toNat / 16)) b
  | .ext => findRow (extRow ((m.slot b).toNat / 16)) (m.slot b)

/-! ### The decoder -/

/-- The instruction of a row with its operand bytes fetched (R85). -/
def decodeOperand (c : Context) (r : Row) (bs : List Byte) : Except DecodeError (Instr × List Byte) :=
  match takeOperand (r.mode.operandBytes c.am c.rs) bs with
  | some (v, rest) => .ok (r.make v, rest)
  | none => .error .truncated

/-- One unit of the decode procedure of R85: a prefix1 byte only as the first byte of an instruction (R84), a prefix2 byte
first or directly after a prefix1, the page byte `0F`, or an opcode with its operand bytes. -/
def decode (m : ExtMap) (c : Context) : List Byte → Except DecodeError (Instr × List Byte)
  | [] => .error .truncated
  | b :: bs =>
    match c.page with
    | .ext =>
      match lookupRow m .ext b with
      | some r => decodeOperand c r bs
      | none => .error (.extUnassigned b)
    | .std =>
      if isPrefix1 b && c.prefix1.isNone && c.prefix2.isNone then .ok (.prefix1 (.ofByte b), bs)
      else if isPrefix2 b then
        if c.prefix2.isNone then .ok (.prefix2 (.ofByte b), bs) else .error (.secondPrefix2 b)
      else if b = extPageByte then .ok (.extPage, bs)
      else if isPrefix1 b && !c.am then .error (.duplicateOpcode b)
      else
        match lookupRow m .std b with
        | some r => decodeOperand c r bs
        | none => .error (.noRow b)

/-- The units of one instruction, at most `fuel` of them. -/
def decodeUnits (m : ExtMap) : Nat → Context → List Byte → Except DecodeError (Context × Instr × List Byte)
  | 0, _, _ => .error .truncated
  | fuel + 1, c, bs =>
    match decode m c bs with
    | .error e => .error e
    | .ok (i, rest) =>
      match c.extend i with
      | some c' => decodeUnits m fuel c' rest
      | none => .ok (c, i, rest)

/-- A whole instruction, `[prefix1] [prefix2] [page] opcode operand*` (R84, R85): its record, the instruction and the bytes
after it. Four units are as many as R84 allows. -/
def decodeInstruction (m : ExtMap) (bs : List Byte) : Except DecodeError (Context × Instr × List Byte) :=
  decodeUnits m 4 .start bs

/-! ### The encoder -/

/-- Where a cell stands in the tables of R95 and R96, and the instruction's operand (0 for a cell without one). -/
structure Cell where
  page : Page
  opcode : Byte
  mode : AddrMode
  operand : Word
  deriving DecidableEq, Repr

/-- The cell of every instruction; the prefix bytes and the page byte are no cells of their own (R95, R96, R443, R444). -/
def Instr.cell : Instr → Option Cell
  | .prefix1 _ => none
  | .prefix2 _ => none
  | .oraIndZpX op => some ⟨.std, 0x01#8, .indZpX, op⟩
  | .oraQuadZpX op => some ⟨.std, 0x03#8, .quadZpX, op⟩
  | .oraZp op => some ⟨.std, 0x05#8, .zp, op⟩
  | .oraImm op => some ⟨.std, 0x09#8, .imm, op⟩
  | .oraAbs op => some ⟨.std, 0x0D#8, .abs, op⟩
  | .oraIndZpY op => some ⟨.std, 0x11#8, .indZpY, op⟩
  | .oraIndZp op => some ⟨.std, 0x12#8, .indZp, op⟩
  | .oraQuadZpY op => some ⟨.std, 0x13#8, .quadZpY, op⟩
  | .oraZpX op => some ⟨.std, 0x15#8, .zpX, op⟩
  | .oraQuadZp op => some ⟨.std, 0x17#8, .quadZp, op⟩
  | .oraAbsY op => some ⟨.std, 0x19#8, .absY, op⟩
  | .oraAbsX op => some ⟨.std, 0x1D#8, .absX, op⟩
  | .andIndZpX op => some ⟨.std, 0x21#8, .indZpX, op⟩
  | .andQuadZpX op => some ⟨.std, 0x23#8, .quadZpX, op⟩
  | .andZp op => some ⟨.std, 0x25#8, .zp, op⟩
  | .andImm op => some ⟨.std, 0x29#8, .imm, op⟩
  | .andAbs op => some ⟨.std, 0x2D#8, .abs, op⟩
  | .andIndZpY op => some ⟨.std, 0x31#8, .indZpY, op⟩
  | .andIndZp op => some ⟨.std, 0x32#8, .indZp, op⟩
  | .andQuadZpY op => some ⟨.std, 0x33#8, .quadZpY, op⟩
  | .andZpX op => some ⟨.std, 0x35#8, .zpX, op⟩
  | .andQuadZp op => some ⟨.std, 0x37#8, .quadZp, op⟩
  | .andAbsY op => some ⟨.std, 0x39#8, .absY, op⟩
  | .andAbsX op => some ⟨.std, 0x3D#8, .absX, op⟩
  | .eorIndZpX op => some ⟨.std, 0x41#8, .indZpX, op⟩
  | .eorQuadZpX op => some ⟨.std, 0x43#8, .quadZpX, op⟩
  | .eorZp op => some ⟨.std, 0x45#8, .zp, op⟩
  | .eorImm op => some ⟨.std, 0x49#8, .imm, op⟩
  | .eorAbs op => some ⟨.std, 0x4D#8, .abs, op⟩
  | .eorIndZpY op => some ⟨.std, 0x51#8, .indZpY, op⟩
  | .eorIndZp op => some ⟨.std, 0x52#8, .indZp, op⟩
  | .eorQuadZpY op => some ⟨.std, 0x53#8, .quadZpY, op⟩
  | .eorZpX op => some ⟨.std, 0x55#8, .zpX, op⟩
  | .eorQuadZp op => some ⟨.std, 0x57#8, .quadZp, op⟩
  | .eorAbsY op => some ⟨.std, 0x59#8, .absY, op⟩
  | .eorAbsX op => some ⟨.std, 0x5D#8, .absX, op⟩
  | .bitZp op => some ⟨.std, 0x24#8, .zp, op⟩
  | .bitAbs op => some ⟨.std, 0x2C#8, .abs, op⟩
  | .bitZpX op => some ⟨.std, 0x34#8, .zpX, op⟩
  | .bitAbsX op => some ⟨.std, 0x3C#8, .absX, op⟩
  | .adcIndZpX op => some ⟨.std, 0x61#8, .indZpX, op⟩
  | .adcQuadZpX op => some ⟨.std, 0x63#8, .quadZpX, op⟩
  | .adcZp op => some ⟨.std, 0x65#8, .zp, op⟩
  | .adcImm op => some ⟨.std, 0x69#8, .imm, op⟩
  | .adcAbs op => some ⟨.std, 0x6D#8, .abs, op⟩
  | .adcIndZpY op => some ⟨.std, 0x71#8, .indZpY, op⟩
  | .adcIndZp op => some ⟨.std, 0x72#8, .indZp, op⟩
  | .adcQuadZpY op => some ⟨.std, 0x73#8, .quadZpY, op⟩
  | .adcZpX op => some ⟨.std, 0x75#8, .zpX, op⟩
  | .adcQuadZp op => some ⟨.std, 0x77#8, .quadZp, op⟩
  | .adcAbsY op => some ⟨.std, 0x79#8, .absY, op⟩
  | .adcAbsX op => some ⟨.std, 0x7D#8, .absX, op⟩
  | .bitImm op => some ⟨.std, 0x89#8, .imm, op⟩
  | .cpyImm op => some ⟨.std, 0xC0#8, .imm, op⟩
  | .cmpIndZpX op => some ⟨.std, 0xC1#8, .indZpX, op⟩
  | .cmpQuadZpX op => some ⟨.std, 0xC3#8, .quadZpX, op⟩
  | .cpyZp op => some ⟨.std, 0xC4#8, .zp, op⟩
  | .cmpZp op => some ⟨.std, 0xC5#8, .zp, op⟩
  | .cmpImm op => some ⟨.std, 0xC9#8, .imm, op⟩
  | .cpyAbs op => some ⟨.std, 0xCC#8, .abs, op⟩
  | .cmpAbs op => some ⟨.std, 0xCD#8, .abs, op⟩
  | .cmpIndZpY op => some ⟨.std, 0xD1#8, .indZpY, op⟩
  | .cmpIndZp op => some ⟨.std, 0xD2#8, .indZp, op⟩
  | .cmpQuadZpY op => some ⟨.std, 0xD3#8, .quadZpY, op⟩
  | .cmpZpX op => some ⟨.std, 0xD5#8, .zpX, op⟩
  | .cmpQuadZp op => some ⟨.std, 0xD7#8, .quadZp, op⟩
  | .cmpAbsY op => some ⟨.std, 0xD9#8, .absY, op⟩
  | .cmpAbsX op => some ⟨.std, 0xDD#8, .absX, op⟩
  | .cpxImm op => some ⟨.std, 0xE0#8, .imm, op⟩
  | .sbcIndZpX op => some ⟨.std, 0xE1#8, .indZpX, op⟩
  | .sbcQuadZpX op => some ⟨.std, 0xE3#8, .quadZpX, op⟩
  | .cpxZp op => some ⟨.std, 0xE4#8, .zp, op⟩
  | .sbcZp op => some ⟨.std, 0xE5#8, .zp, op⟩
  | .sbcImm op => some ⟨.std, 0xE9#8, .imm, op⟩
  | .cpxAbs op => some ⟨.std, 0xEC#8, .abs, op⟩
  | .sbcAbs op => some ⟨.std, 0xED#8, .abs, op⟩
  | .sbcIndZpY op => some ⟨.std, 0xF1#8, .indZpY, op⟩
  | .sbcIndZp op => some ⟨.std, 0xF2#8, .indZp, op⟩
  | .sbcQuadZpY op => some ⟨.std, 0xF3#8, .quadZpY, op⟩
  | .sbcZpX op => some ⟨.std, 0xF5#8, .zpX, op⟩
  | .sbcQuadZp op => some ⟨.std, 0xF7#8, .quadZp, op⟩
  | .sbcAbsY op => some ⟨.std, 0xF9#8, .absY, op⟩
  | .sbcAbsX op => some ⟨.std, 0xFD#8, .absX, op⟩
  | .ldaZpY op => some ⟨.std, 0x02#8, .zpY, op⟩
  | .staZpY op => some ⟨.std, 0x22#8, .zpY, op⟩
  | .ldaIndAbsY op => some ⟨.std, 0x42#8, .indAbsY, op⟩
  | .ldaQuadAbsY op => some ⟨.std, 0x47#8, .quadAbsY, op⟩
  | .ldaIndAbsX op => some ⟨.std, 0x62#8, .indAbsX, op⟩
  | .stzZp op => some ⟨.std, 0x64#8, .zp, op⟩
  | .ldaQuadAbsX op => some ⟨.std, 0x67#8, .quadAbsX, op⟩
  | .stzZpX op => some ⟨.std, 0x74#8, .zpX, op⟩
  | .staIndZpX op => some ⟨.std, 0x81#8, .indZpX, op⟩
  | .staQuadZpX op => some ⟨.std, 0x83#8, .quadZpX, op⟩
  | .styZp op => some ⟨.std, 0x84#8, .zp, op⟩
  | .staZp op => some ⟨.std, 0x85#8, .zp, op⟩
  | .stxZp op => some ⟨.std, 0x86#8, .zp, op⟩
  | .styAbs op => some ⟨.std, 0x8C#8, .abs, op⟩
  | .staAbs op => some ⟨.std, 0x8D#8, .abs, op⟩
  | .stxAbs op => some ⟨.std, 0x8E#8, .abs, op⟩
  | .staIndZpY op => some ⟨.std, 0x91#8, .indZpY, op⟩
  | .staIndZp op => some ⟨.std, 0x92#8, .indZp, op⟩
  | .staQuadZpY op => some ⟨.std, 0x93#8, .quadZpY, op⟩
  | .styZpX op => some ⟨.std, 0x94#8, .zpX, op⟩
  | .staZpX op => some ⟨.std, 0x95#8, .zpX, op⟩
  | .stxZpY op => some ⟨.std, 0x96#8, .zpY, op⟩
  | .staQuadZp op => some ⟨.std, 0x97#8, .quadZp, op⟩
  | .staAbsY op => some ⟨.std, 0x99#8, .absY, op⟩
  | .stzAbs op => some ⟨.std, 0x9C#8, .abs, op⟩
  | .staAbsX op => some ⟨.std, 0x9D#8, .absX, op⟩
  | .stzAbsX op => some ⟨.std, 0x9E#8, .absX, op⟩
  | .ldyImm op => some ⟨.std, 0xA0#8, .imm, op⟩
  | .ldaIndZpX op => some ⟨.std, 0xA1#8, .indZpX, op⟩
  | .ldxImm op => some ⟨.std, 0xA2#8, .imm, op⟩
  | .ldaQuadZpX op => some ⟨.std, 0xA3#8, .quadZpX, op⟩
  | .ldyZp op => some ⟨.std, 0xA4#8, .zp, op⟩
  | .ldaZp op => some ⟨.std, 0xA5#8, .zp, op⟩
  | .ldxZp op => some ⟨.std, 0xA6#8, .zp, op⟩
  | .ldaImm op => some ⟨.std, 0xA9#8, .imm, op⟩
  | .ldyAbs op => some ⟨.std, 0xAC#8, .abs, op⟩
  | .ldaAbs op => some ⟨.std, 0xAD#8, .abs, op⟩
  | .ldxAbs op => some ⟨.std, 0xAE#8, .abs, op⟩
  | .ldaIndZpY op => some ⟨.std, 0xB1#8, .indZpY, op⟩
  | .ldaIndZp op => some ⟨.std, 0xB2#8, .indZp, op⟩
  | .ldaQuadZpY op => some ⟨.std, 0xB3#8, .quadZpY, op⟩
  | .ldyZpX op => some ⟨.std, 0xB4#8, .zpX, op⟩
  | .ldaZpX op => some ⟨.std, 0xB5#8, .zpX, op⟩
  | .ldxZpY op => some ⟨.std, 0xB6#8, .zpY, op⟩
  | .ldaQuadZp op => some ⟨.std, 0xB7#8, .quadZp, op⟩
  | .ldaAbsY op => some ⟨.std, 0xB9#8, .absY, op⟩
  | .ldyAbsX op => some ⟨.std, 0xBC#8, .absX, op⟩
  | .ldaAbsX op => some ⟨.std, 0xBD#8, .absX, op⟩
  | .ldxAbsY op => some ⟨.std, 0xBE#8, .absY, op⟩
  | .staIndAbsY op => some ⟨.std, 0xC2#8, .indAbsY, op⟩
  | .staQuadAbsY op => some ⟨.std, 0xC7#8, .quadAbsY, op⟩
  | .staIndAbsX op => some ⟨.std, 0xE2#8, .indAbsX, op⟩
  | .staQuadAbsX op => some ⟨.std, 0xE7#8, .quadAbsX, op⟩
  | .php => some ⟨.std, 0x08#8, .implied, 0⟩
  | .plp => some ⟨.std, 0x28#8, .implied, 0⟩
  | .pha => some ⟨.std, 0x48#8, .implied, 0⟩
  | .phy => some ⟨.std, 0x5A#8, .implied, 0⟩
  | .pla => some ⟨.std, 0x68#8, .implied, 0⟩
  | .ply => some ⟨.std, 0x7A#8, .implied, 0⟩
  | .txa => some ⟨.std, 0x8A#8, .implied, 0⟩
  | .tya => some ⟨.std, 0x98#8, .implied, 0⟩
  | .txs => some ⟨.std, 0x9A#8, .implied, 0⟩
  | .tay => some ⟨.std, 0xA8#8, .implied, 0⟩
  | .tax => some ⟨.std, 0xAA#8, .implied, 0⟩
  | .tsx => some ⟨.std, 0xBA#8, .implied, 0⟩
  | .phx => some ⟨.std, 0xDA#8, .implied, 0⟩
  | .plx => some ⟨.std, 0xFA#8, .implied, 0⟩
  | .tsbZp op => some ⟨.std, 0x04#8, .zp, op⟩
  | .aslZp op => some ⟨.std, 0x06#8, .zp, op⟩
  | .aslAcc => some ⟨.std, 0x0A#8, .implied, 0⟩
  | .tsbAbs op => some ⟨.std, 0x0C#8, .abs, op⟩
  | .aslAbs op => some ⟨.std, 0x0E#8, .abs, op⟩
  | .trbZp op => some ⟨.std, 0x14#8, .zp, op⟩
  | .aslZpX op => some ⟨.std, 0x16#8, .zpX, op⟩
  | .incAcc => some ⟨.std, 0x1A#8, .implied, 0⟩
  | .trbAbs op => some ⟨.std, 0x1C#8, .abs, op⟩
  | .aslAbsX op => some ⟨.std, 0x1E#8, .absX, op⟩
  | .rolZp op => some ⟨.std, 0x26#8, .zp, op⟩
  | .rolAcc => some ⟨.std, 0x2A#8, .implied, 0⟩
  | .rolAbs op => some ⟨.std, 0x2E#8, .abs, op⟩
  | .rolZpX op => some ⟨.std, 0x36#8, .zpX, op⟩
  | .decAcc => some ⟨.std, 0x3A#8, .implied, 0⟩
  | .rolAbsX op => some ⟨.std, 0x3E#8, .absX, op⟩
  | .lsrZp op => some ⟨.std, 0x46#8, .zp, op⟩
  | .lsrAcc => some ⟨.std, 0x4A#8, .implied, 0⟩
  | .lsrAbs op => some ⟨.std, 0x4E#8, .abs, op⟩
  | .lsrZpX op => some ⟨.std, 0x56#8, .zpX, op⟩
  | .lsrAbsX op => some ⟨.std, 0x5E#8, .absX, op⟩
  | .rorZp op => some ⟨.std, 0x66#8, .zp, op⟩
  | .rorAcc => some ⟨.std, 0x6A#8, .implied, 0⟩
  | .rorAbs op => some ⟨.std, 0x6E#8, .abs, op⟩
  | .rorZpX op => some ⟨.std, 0x76#8, .zpX, op⟩
  | .rorAbsX op => some ⟨.std, 0x7E#8, .absX, op⟩
  | .dey => some ⟨.std, 0x88#8, .implied, 0⟩
  | .decZp op => some ⟨.std, 0xC6#8, .zp, op⟩
  | .iny => some ⟨.std, 0xC8#8, .implied, 0⟩
  | .dex => some ⟨.std, 0xCA#8, .implied, 0⟩
  | .decAbs op => some ⟨.std, 0xCE#8, .abs, op⟩
  | .decZpX op => some ⟨.std, 0xD6#8, .zpX, op⟩
  | .decAbsX op => some ⟨.std, 0xDE#8, .absX, op⟩
  | .incZp op => some ⟨.std, 0xE6#8, .zp, op⟩
  | .inx => some ⟨.std, 0xE8#8, .implied, 0⟩
  | .incAbs op => some ⟨.std, 0xEE#8, .abs, op⟩
  | .incZpX op => some ⟨.std, 0xF6#8, .zpX, op⟩
  | .incAbsX op => some ⟨.std, 0xFE#8, .absX, op⟩
  | .brk op => some ⟨.std, 0x00#8, .imm, op⟩
  | .jmpQuadAbs op => some ⟨.std, 0x07#8, .quadAbs, op⟩
  | .bpl op => some ⟨.std, 0x10#8, .branch, op⟩
  | .clc => some ⟨.std, 0x18#8, .implied, 0⟩
  | .jsrAbs op => some ⟨.std, 0x20#8, .abs, op⟩
  | .jmpQuadAbsX op => some ⟨.std, 0x27#8, .quadAbsX, op⟩
  | .bmi op => some ⟨.std, 0x30#8, .branch, op⟩
  | .sec => some ⟨.std, 0x38#8, .implied, 0⟩
  | .rti => some ⟨.std, 0x40#8, .implied, 0⟩
  | .bsrRelWide op => some ⟨.std, 0x44#8, .relWide, op⟩
  | .jmpAbs op => some ⟨.std, 0x4C#8, .abs, op⟩
  | .bvc op => some ⟨.std, 0x50#8, .branch, op⟩
  | .cli => some ⟨.std, 0x58#8, .implied, 0⟩
  | .rts => some ⟨.std, 0x60#8, .implied, 0⟩
  | .jmpIndAbs op => some ⟨.std, 0x6C#8, .indAbs, op⟩
  | .bvs op => some ⟨.std, 0x70#8, .branch, op⟩
  | .sei => some ⟨.std, 0x78#8, .implied, 0⟩
  | .jmpIndAbsX op => some ⟨.std, 0x7C#8, .indAbsX, op⟩
  | .bra op => some ⟨.std, 0x80#8, .branch, op⟩
  | .bsrRelByte op => some ⟨.std, 0x82#8, .relByte, op⟩
  | .jsrQuadAbs op => some ⟨.std, 0x87#8, .quadAbs, op⟩
  | .bcc op => some ⟨.std, 0x90#8, .branch, op⟩
  | .jsrQuadAbsX op => some ⟨.std, 0xA7#8, .quadAbsX, op⟩
  | .bcs op => some ⟨.std, 0xB0#8, .branch, op⟩
  | .clv => some ⟨.std, 0xB8#8, .implied, 0⟩
  | .bne op => some ⟨.std, 0xD0#8, .branch, op⟩
  | .cld => some ⟨.std, 0xD8#8, .implied, 0⟩
  | .jsrIndAbs op => some ⟨.std, 0xDC#8, .indAbs, op⟩
  | .nop => some ⟨.std, 0xEA#8, .implied, 0⟩
  | .beq op => some ⟨.std, 0xF0#8, .branch, op⟩
  | .trp op => some ⟨.std, 0xF4#8, .trapCode, op⟩
  | .sed => some ⟨.std, 0xF8#8, .implied, 0⟩
  | .jsrIndAbsX op => some ⟨.std, 0xFC#8, .indAbsX, op⟩
  | .extPage => none
  | .sysPage => some ⟨.std, 0x2F#8, .implied, 0⟩
  | .quickPage => some ⟨.std, 0x4F#8, .implied, 0⟩
  | .reserved6F => some ⟨.std, 0x6F#8, .implied, 0⟩
  | .reserved8F => some ⟨.std, 0x8F#8, .implied, 0⟩
  | .reserved9F => some ⟨.std, 0x9F#8, .implied, 0⟩
  | .reservedAF => some ⟨.std, 0xAF#8, .implied, 0⟩
  | .reservedBF => some ⟨.std, 0xBF#8, .implied, 0⟩
  | .reservedCF => some ⟨.std, 0xCF#8, .implied, 0⟩
  | .reservedDF => some ⟨.std, 0xDF#8, .implied, 0⟩
  | .reservedEF => some ⟨.std, 0xEF#8, .implied, 0⟩
  | .reservedFF => some ⟨.std, 0xFF#8, .implied, 0⟩
  | .unassigned1F => some ⟨.std, 0x1F#8, .implied, 0⟩
  | .unassigned3F => some ⟨.std, 0x3F#8, .implied, 0⟩
  | .unassigned54 => some ⟨.std, 0x54#8, .implied, 0⟩
  | .unassigned5C => some ⟨.std, 0x5C#8, .implied, 0⟩
  | .unassigned5F => some ⟨.std, 0x5F#8, .implied, 0⟩
  | .unassigned7F => some ⟨.std, 0x7F#8, .implied, 0⟩
  | .unassignedD4 => some ⟨.std, 0xD4#8, .implied, 0⟩
  | .oraIndE => some ⟨.ext, 0x09#8, .indE, 0⟩
  | .tsbIndE => some ⟨.ext, 0x0C#8, .indE, 0⟩
  | .aslIndE => some ⟨.ext, 0x0D#8, .indE, 0⟩
  | .aslAbsY op => some ⟨.ext, 0x0F#8, .absY, op⟩
  | .trbIndE => some ⟨.ext, 0x1C#8, .indE, 0⟩
  | .jsrIndE => some ⟨.ext, 0x20#8, .indE, 0⟩
  | .andIndE => some ⟨.ext, 0x29#8, .indE, 0⟩
  | .rolIndE => some ⟨.ext, 0x2D#8, .indE, 0⟩
  | .rolAbsY op => some ⟨.ext, 0x2F#8, .absY, op⟩
  | .bitAcc => some ⟨.ext, 0x33#8, .implied, 0⟩
  | .eorIndE => some ⟨.ext, 0x49#8, .indE, 0⟩
  | .jmpIndE => some ⟨.ext, 0x4C#8, .indE, 0⟩
  | .lsrIndE => some ⟨.ext, 0x4D#8, .indE, 0⟩
  | .lsrAbsY op => some ⟨.ext, 0x4F#8, .absY, op⟩
  | .adcIndE => some ⟨.ext, 0x69#8, .indE, 0⟩
  | .jmpLong op => some ⟨.ext, 0x6C#8, .long, op⟩
  | .rorIndE => some ⟨.ext, 0x6D#8, .indE, 0⟩
  | .rorAbsY op => some ⟨.ext, 0x6F#8, .absY, op⟩
  | .bitIndE => some ⟨.ext, 0x89#8, .indE, 0⟩
  | .styIndE => some ⟨.ext, 0x8C#8, .indE, 0⟩
  | .staIndE => some ⟨.ext, 0x8D#8, .indE, 0⟩
  | .styAbsX op => some ⟨.ext, 0x8E#8, .absX, op⟩
  | .stzIndE => some ⟨.ext, 0x9C#8, .indE, 0⟩
  | .stxIndE => some ⟨.ext, 0x9D#8, .indE, 0⟩
  | .stzAbsY op => some ⟨.ext, 0x9F#8, .absY, op⟩
  | .ldyIndE => some ⟨.ext, 0xA0#8, .indE, 0⟩
  | .ldaIndE => some ⟨.ext, 0xA9#8, .indE, 0⟩
  | .ldxIndE => some ⟨.ext, 0xAD#8, .indE, 0⟩
  | .stxAbsY op => some ⟨.ext, 0xAF#8, .absY, op⟩
  | .cpyIndE => some ⟨.ext, 0xC0#8, .indE, 0⟩
  | .cmpIndE => some ⟨.ext, 0xC9#8, .indE, 0⟩
  | .decIndE => some ⟨.ext, 0xCD#8, .indE, 0⟩
  | .decAbsY op => some ⟨.ext, 0xCF#8, .absY, op⟩
  | .jsrLong op => some ⟨.ext, 0xDC#8, .long, op⟩
  | .cpxIndE => some ⟨.ext, 0xE0#8, .indE, 0⟩
  | .sbcIndE => some ⟨.ext, 0xE9#8, .indE, 0⟩
  | .incIndE => some ⟨.ext, 0xED#8, .indE, 0⟩
  | .incAbsY op => some ⟨.ext, 0xEF#8, .absY, op⟩
  | .pea .indAbsY op => some ⟨.ext, 0x01#8, .indAbsY, op⟩
  | .pea .relWide op => some ⟨.ext, 0x02#8, .relWide, op⟩
  | .pea .indAbsX op => some ⟨.ext, 0x11#8, .indAbsX, op⟩
  | .pea .indAbs op => some ⟨.ext, 0x12#8, .indAbs, op⟩
  | .leaIndAbsY op => some ⟨.ext, 0x21#8, .indAbsY, op⟩
  | .leaRelWide op => some ⟨.ext, 0x22#8, .relWide, op⟩
  | .leaIndAbsX op => some ⟨.ext, 0x31#8, .indAbsX, op⟩
  | .leaIndAbs op => some ⟨.ext, 0x32#8, .indAbs, op⟩
  | .pea .quadAbsY op => some ⟨.ext, 0x41#8, .quadAbsY, op⟩
  | .leaZp op => some ⟨.ext, 0x46#8, .zp, op⟩
  | .pea .quadAbsX op => some ⟨.ext, 0x51#8, .quadAbsX, op⟩
  | .pea .quadAbs op => some ⟨.ext, 0x52#8, .quadAbs, op⟩
  | .leaZpX op => some ⟨.ext, 0x56#8, .zpX, op⟩
  | .leaQuadAbsY op => some ⟨.ext, 0x61#8, .quadAbsY, op⟩
  | .leaQuadAbsX op => some ⟨.ext, 0x71#8, .quadAbsX, op⟩
  | .leaQuadAbs op => some ⟨.ext, 0x72#8, .quadAbs, op⟩
  | .pea .indZpX op => some ⟨.ext, 0x81#8, .indZpX, op⟩
  | .pea .relByte op => some ⟨.ext, 0x82#8, .relByte, op⟩
  | .pea .zp op => some ⟨.ext, 0x86#8, .zp, op⟩
  | .pea .indZpY op => some ⟨.ext, 0x91#8, .indZpY, op⟩
  | .pea .indZp op => some ⟨.ext, 0x92#8, .indZp, op⟩
  | .pea .zpX op => some ⟨.ext, 0x96#8, .zpX, op⟩
  | .leaIndZpX op => some ⟨.ext, 0xA1#8, .indZpX, op⟩
  | .leaRelByte op => some ⟨.ext, 0xA2#8, .relByte, op⟩
  | .leaAbs op => some ⟨.ext, 0xAE#8, .abs, op⟩
  | .leaIndZpY op => some ⟨.ext, 0xB1#8, .indZpY, op⟩
  | .leaIndZp op => some ⟨.ext, 0xB2#8, .indZp, op⟩
  | .leaAbsX op => some ⟨.ext, 0xBE#8, .absX, op⟩
  | .leaAbsY op => some ⟨.ext, 0xBF#8, .absY, op⟩
  | .pea .quadZpY op => some ⟨.ext, 0xC1#8, .quadZpY, op⟩
  | .pea .abs op => some ⟨.ext, 0xCE#8, .abs, op⟩
  | .pea .quadZpX op => some ⟨.ext, 0xD1#8, .quadZpX, op⟩
  | .pea .quadZp op => some ⟨.ext, 0xD2#8, .quadZp, op⟩
  | .pea .zpY op => some ⟨.ext, 0xD6#8, .zpY, op⟩
  | .pea .absX op => some ⟨.ext, 0xDE#8, .absX, op⟩
  | .pea .absY op => some ⟨.ext, 0xDF#8, .absY, op⟩
  | .leaQuadZpY op => some ⟨.ext, 0xE1#8, .quadZpY, op⟩
  | .leaQuadZpX op => some ⟨.ext, 0xF1#8, .quadZpX, op⟩
  | .leaQuadZp op => some ⟨.ext, 0xF2#8, .quadZp, op⟩
  | .leaZpY op => some ⟨.ext, 0xF6#8, .zpY, op⟩
  | .addIndE => some ⟨.ext, 0x00#8, .indE, 0⟩
  | .mvn => some ⟨.ext, 0x03#8, .implied, 0⟩
  | .addImm op => some ⟨.ext, 0x04#8, .imm, op⟩
  | .asrMem .zp op => some ⟨.ext, 0x06#8, .zp, op⟩
  | .phe => some ⟨.ext, 0x08#8, .implied, 0⟩
  | .asr => some ⟨.ext, 0x0A#8, .implied, 0⟩
  | .asrMem .abs op => some ⟨.ext, 0x0E#8, .abs, op⟩
  | .bev op => some ⟨.ext, 0x10#8, .branch, op⟩
  | .mvp => some ⟨.ext, 0x13#8, .implied, 0⟩
  | .asrMem .zpX op => some ⟨.ext, 0x16#8, .zpX, op⟩
  | .asrIndE => some ⟨.ext, 0x1D#8, .indE, 0⟩
  | .asrMem .absX op => some ⟨.ext, 0x1E#8, .absX, op⟩
  | .asrMem .absY op => some ⟨.ext, 0x1F#8, .absY, op⟩
  | .fil => some ⟨.ext, 0x23#8, .implied, 0⟩
  | .adeImm op => some ⟨.ext, 0x24#8, .imm, op⟩
  | .rdlMem .zp op => some ⟨.ext, 0x26#8, .zp, op⟩
  | .ple => some ⟨.ext, 0x28#8, .implied, 0⟩
  | .rdl => some ⟨.ext, 0x2A#8, .implied, 0⟩
  | .sca => some ⟨.ext, 0x2C#8, .indE, 0⟩
  | .rdlMem .abs op => some ⟨.ext, 0x2E#8, .abs, op⟩
  | .bod op => some ⟨.ext, 0x30#8, .branch, op⟩
  | .ade => some ⟨.ext, 0x34#8, .implied, 0⟩
  | .rdlMem .zpX op => some ⟨.ext, 0x36#8, .zpX, op⟩
  | .lde op => some ⟨.ext, 0x39#8, .imm, op⟩
  | .lla => some ⟨.ext, 0x3C#8, .indE, 0⟩
  | .rdlIndE => some ⟨.ext, 0x3D#8, .indE, 0⟩
  | .rdlMem .absX op => some ⟨.ext, 0x3E#8, .absX, op⟩
  | .rdlMem .absY op => some ⟨.ext, 0x3F#8, .absY, op⟩
  | .psh => some ⟨.ext, 0x43#8, .implied, 0⟩
  | .adsImm op => some ⟨.ext, 0x44#8, .imm, op⟩
  | .phb => some ⟨.ext, 0x48#8, .implied, 0⟩
  | .blts op => some ⟨.ext, 0x50#8, .branch, op⟩
  | .pll => some ⟨.ext, 0x53#8, .implied, 0⟩
  | .ads => some ⟨.ext, 0x54#8, .implied, 0⟩
  | .prb => some ⟨.ext, 0x58#8, .implied, 0⟩
  | .ldb op => some ⟨.ext, 0x59#8, .imm, op⟩
  | .rmb => some ⟨.ext, 0x63#8, .implied, 0⟩
  | .adbImm op => some ⟨.ext, 0x64#8, .imm, op⟩
  | .rdrMem .zp op => some ⟨.ext, 0x66#8, .zp, op⟩
  | .plb => some ⟨.ext, 0x68#8, .implied, 0⟩
  | .rdr => some ⟨.ext, 0x6A#8, .implied, 0⟩
  | .rdrMem .abs op => some ⟨.ext, 0x6E#8, .abs, op⟩
  | .bges op => some ⟨.ext, 0x70#8, .branch, op⟩
  | .wmb => some ⟨.ext, 0x73#8, .implied, 0⟩
  | .adb => some ⟨.ext, 0x74#8, .implied, 0⟩
  | .rdrMem .zpX op => some ⟨.ext, 0x76#8, .zpX, op⟩
  | .rdrIndE => some ⟨.ext, 0x7D#8, .indE, 0⟩
  | .rdrMem .absX op => some ⟨.ext, 0x7E#8, .absX, op⟩
  | .rdrMem .absY op => some ⟨.ext, 0x7F#8, .absY, op⟩
  | .subIndE => some ⟨.ext, 0x80#8, .indE, 0⟩
  | .hbs => some ⟨.ext, 0x83#8, .implied, 0⟩
  | .subImm op => some ⟨.ext, 0x84#8, .imm, op⟩
  | .tae => some ⟨.ext, 0x88#8, .implied, 0⟩
  | .tys => some ⟨.ext, 0x8A#8, .implied, 0⟩
  | .ble op => some ⟨.ext, 0x90#8, .branch, op⟩
  | .hbc => some ⟨.ext, 0x93#8, .implied, 0⟩
  | .tea => some ⟨.ext, 0x98#8, .implied, 0⟩
  | .sxy => some ⟨.ext, 0x9A#8, .implied, 0⟩
  | .inv => some ⟨.ext, 0xA3#8, .implied, 0⟩
  | .sbeImm op => some ⟨.ext, 0xA4#8, .imm, op⟩
  | .sab => some ⟨.ext, 0xA8#8, .implied, 0⟩
  | .bgt op => some ⟨.ext, 0xB0#8, .branch, op⟩
  | .bcn => some ⟨.ext, 0xB3#8, .implied, 0⟩
  | .sbe => some ⟨.ext, 0xB4#8, .implied, 0⟩
  | .seb => some ⟨.ext, 0xB8#8, .implied, 0⟩
  | .sax => some ⟨.ext, 0xBA#8, .implied, 0⟩
  | .extOp => some ⟨.ext, 0xC3#8, .implied, 0⟩
  | .sbsImm op => some ⟨.ext, 0xC4#8, .imm, op⟩
  | .tpa => some ⟨.ext, 0xC8#8, .implied, 0⟩
  | .tsy => some ⟨.ext, 0xCA#8, .implied, 0⟩
  | .bles op => some ⟨.ext, 0xD0#8, .branch, op⟩
  | .swp => some ⟨.ext, 0xD3#8, .implied, 0⟩
  | .sbs => some ⟨.ext, 0xD4#8, .implied, 0⟩
  | .sae => some ⟨.ext, 0xD8#8, .implied, 0⟩
  | .say => some ⟨.ext, 0xDA#8, .implied, 0⟩
  | .sbbImm op => some ⟨.ext, 0xE4#8, .imm, op⟩
  | .tab => some ⟨.ext, 0xE8#8, .implied, 0⟩
  | .teb => some ⟨.ext, 0xEA#8, .implied, 0⟩
  | .rmbIndE => some ⟨.ext, 0xEC#8, .indE, 0⟩
  | .bgts op => some ⟨.ext, 0xF0#8, .branch, op⟩
  | .bsw => some ⟨.ext, 0xF3#8, .implied, 0⟩
  | .sbb => some ⟨.ext, 0xF4#8, .implied, 0⟩
  | .tba => some ⟨.ext, 0xF8#8, .implied, 0⟩
  | .tbe => some ⟨.ext, 0xFA#8, .implied, 0⟩
  | .wmbIndE => some ⟨.ext, 0xFC#8, .indE, 0⟩

/-- The opcode byte of a cell under the parameter `EXTMAP` (R95, R96). -/
def Cell.opcodeByte (m : ExtMap) (k : Cell) : Byte :=
  match k.page with
  | .std => k.opcode
  | .ext => m.opcodeFor k.opcode

/-- The bytes of one unit in its context: the prefix byte, the page byte, or the opcode and its operand bytes (R80, R81,
R90, R92). -/
def encode (m : ExtMap) (c : Context) (i : Instr) : List Byte :=
  match i.cell with
  | some k => k.opcodeByte m :: operandBytesLE (k.mode.operandBytes c.am c.rs) k.operand
  | none =>
    match i with
    | .prefix1 f => [f.toByte]
    | .prefix2 f => [f.toByte]
    | _ => [extPageByte]

/-- The bytes of a whole instruction: the prefix bytes the context holds, the page byte if it is on the EXT page, the
opcode and its operand (R84). -/
def encodeInstruction (m : ExtMap) (c : Context) (i : Instr) : List Byte :=
  (match c.prefix1 with | some f => [f.toByte] | none => [])
    ++ (match c.prefix2 with | some f => [f.toByte] | none => [])
    ++ (match c.page with | .std => [] | .ext => [extPageByte])
    ++ encode m c i

/-! ### The opcode table's words -/

/-- The `k` bytes of a number, the first from its lowest eight bits. -/
def bytesOfNat : Nat → Nat → List Byte
  | 0, _ => []
  | k + 1, w => BitVec.ofNat 8 w :: bytesOfNat k (w / 256)

/-- The instruction the decoder reads from a word of spec/opcode_table.json of `nbits` bits, bits above it zero. A row is
one byte, or the page byte `0F` and a second byte; a one-byte row is its first unit, a two-byte row that opens with the page
byte is the unit after it. -/
def decodeTableWord (nbits w : Nat) : Option Instr :=
  match decode [] .start (bytesOfNat 12 (w % 2 ^ nbits)) with
  | .error _ => none
  | .ok (i, rest) =>
    if i = .extPage ∧ 8 < nbits then
      match decode [] { Context.start with page := .ext } rest with
      | .ok (j, _) => some j
      | .error _ => none
    else some i

end Sys2Proof
end

