-- ==== Sys2Proof/Machine/State.lean ====
section
/-! DEFINITION. The state of one 65002 core (spec/10_state.md R20), the reasons a step can stop, and the state at launch
(spec/70_reset_and_hazards.md R940). Four fields are the model's own and no register of the spec: the options (parameters,
R941), the record of the instruction being decoded (R85: `ctx`, `start`, `opcodeAt`; cleared between instructions) and the
counter of the free values drawn. -/

namespace Sys2Proof.Machine

/-- The two privilege modes (R30, R920); each has a memory environment of its own (R32), named by the mode. -/
inductive Mode where
  | user | hypervisor
  deriving DecidableEq, Repr

/-- The six flags of `P` (R27, R28). -/
structure Flags where
  n : Bool
  v : Bool
  d : Bool
  i : Bool
  z : Bool
  c : Bool
  deriving DecidableEq, Repr

/-- A matchcode: what defines a mode's memory environment (R31). The source gives it no format; the model holds what it
does, the map from the environment's addresses to storage locations (`translate`, R32): `base + address`, except where
`remap` lists another location. Every map on the addresses can be written so (notes/assumptions/4.md). -/
structure Matchcode where
  base : Nat
  remap : List (Nat × Nat)
  deriving DecidableEq, Repr

/-- Storage: the bytes that differ from what an unlisted location reads as, by location, locations strictly rising. -/
abbrev Memory := List Host.Cell

/-- What a location that is not listed reads as. Memory is unspecified at launch (R940) and no access faults (R907); the
value is a DESIGN CHOICE (unsafe; notes/assumptions/5.md). -/
def Memory.unlisted : Byte := 0#8

/-- The canonical form of a memory: locations strictly rising, no byte listed that an unlisted location would read as. -/
def Memory.wf : Memory → Bool
  | [] => true
  | [(_, b)] => b != Memory.unlisted
  | (k, b) :: (k', b') :: m => b != Memory.unlisted && decide (k < k') && Memory.wf ((k', b') :: m)

/-- The architectural state (R20) and the model's own fields. -/
structure State where
  /-- The parameters of R6; no instruction changes them (R941). -/
  opts : Options
  /-- The accumulator (R21). -/
  a : Word
  /-- Index register XR (R22). -/
  x : Word
  /-- Index register YR (R22). -/
  y : Word
  /-- The stack pointer of hypervisor mode (R23). -/
  sph : Word
  /-- The stack pointer of user mode (R23). -/
  spu : Word
  /-- The base register (R24). -/
  br : Word
  /-- The effective-address register (R25). -/
  e : Word
  /-- The program counter (R26). -/
  pc : Word
  /-- The status register's flags (R27). -/
  p : Flags
  /-- The privilege mode (R30). -/
  mode : Mode
  /-- The matchcode of hypervisor mode (R31). -/
  mch : Matchcode
  /-- The matchcode of user mode (R31). -/
  mcu : Matchcode
  /-- Memory (R32, R50). -/
  mem : Memory
  /-- The model's own: the prefix bytes and page of the instruction being decoded (R85); cleared between instructions. -/
  ctx : Context
  /-- The model's own: the address of the first byte of the instruction being decoded (R85, R901); 0 between instructions. -/
  start : Word
  /-- The model's own: the address of the opcode byte of the instruction being decoded (R137); 0 between instructions. -/
  opcodeAt : Word
  /-- The model's own: how many free values (`any_1()`, R8) have been drawn. -/
  draws : Nat
  deriving DecidableEq, Repr

/-- The two traps an instruction raises by name (R900). -/
inductive TrapKind where
  | trp | brk
  deriving DecidableEq, Repr

/-- The events of R900, all terminal (decision D18): the source describes no handler entry, so the run ends with the event
and the state before the instruction. What each records is R905's: the label, the code, the address of the instruction's
first byte and `PC_next`. -/
inductive Fault where
  /-- `Abort(um_in_user_mode)`: raised by any instruction with UM=1 in user mode (R159, R901). Safe: the model stops where
  the hardware enters a handler the source does not describe. -/
  | abortUmInUserMode (start next : Word)
  /-- `Trap(TRP, code)` and `Trap(BRK, code)`: raised by TRP and BRK once `CheckPrefix` passes (R903, R904). Safe, as above. -/
  | trap (kind : TrapKind) (code : Word) (start next : Word)
  deriving DecidableEq, Repr

/-- A prefix field, named in a refusal (R162). -/
inductive PrefixField where
  | of | rs | am | um | le | nf
  deriving DecidableEq, Repr

/-- The refusals of the spec: encodings and situations to which it gives no meaning (R9). All are safe: the model stops where
the hardware does something the source does not say. -/
inductive Refusal where
  /-- An instruction without a meaning in the model yet; raised by `exec` alone. Safe. -/
  | notModelled (mnemonic : String)
  /-- The bytes are no instruction; raised by `step` (R98). Safe. -/
  | undecodable (e : DecodeError)
  /-- More units than R84 allows; no state raises it. Safe. -/
  | tooManyUnits
  /-- A page byte of which the source gives no table; raised by SYS and QUICK (R445, R446). Safe. -/
  | pageNotDescribed (b : Byte)
  /-- A cell that reads "reserved prefix" (R447). Safe. -/
  | reservedPrefix (b : Byte)
  /-- An empty cell of the standard page (R448). Safe. -/
  | emptyCell (b : Byte)
  /-- An operation whose computation the source does not describe; raised by PEA and the operations new in the 65002
  (decision D25). Safe. -/
  | notSpecified (mnemonic : String)
  /-- `rti_not_specified` (R418, R913). Safe. -/
  | rtiNotSpecified
  /-- A prefix field is set that the cell does not list (R162, decision D6). Safe. -/
  | unlistedField (f : PrefixField)
  /-- A duplicate opcode without AM=1 (R162, decision D7). Safe. -/
  | amRequired
  /-- UM=1 on a processor without hypervisor mode (R159, decision D23). Safe. -/
  | umWithoutHypervisor
  /-- The RS width exceeds the register width, where RS sizes data (R151, decision D10). Safe. -/
  | widthAboveRegister
  /-- OF=01 while `PCREL_BASE` is unset (R137, decision D11). Safe. -/
  | pcrelBaseUnset
  /-- A zero-page address or pointer passes `$FF` with AM=0 and OF=00 (R135, R136, decision D14). Safe. -/
  | zeroPageWrap
  /-- ADC or SBC while `P.D` is 1 (decision D15). Safe. -/
  | decimalMode
  /-- PHP with RS other than 00 (R350, decision D30). Safe. -/
  | phpWidth
  /-- A return address that is not `AW` bits wide (R171, decision D29). Safe. -/
  | returnWidth
  /-- A jump target narrower than `AW` while the upper bits of `PC_next` are not zero (R172, decision D24). Safe. -/
  | jumpUpperBits
  /-- A jump with LE 01 or 11 (R172, decision D24). Safe. -/
  | jumpLe
  /-- A jump with UM=1 in hypervisor mode (R172, decision D41). Safe. -/
  | jumpUm
  /-- A `long` operand with AM=1 (decision D27). Safe. -/
  | longWithAm
  /-- A `[[ ]]` cell of the EXT page with AM=1 (R132, decision D43). Safe. -/
  | quadWithAm
  /-- OF other than 00 on LEA `rel` or `relwide` (R139, decision D42). Safe. -/
  | leaRelOffset
  deriving DecidableEq, Repr

/-- Why an instruction does not reach a next state (R9): it raises, or the model refuses it. -/
inductive Stop where
  | raises (f : Fault)
  | refuses (r : Refusal)
  deriving DecidableEq, Repr

/-- What a meaning answers. -/
abbrev Outcome := Host.Outcome State Fault Refusal

/-- The launch state. R940: the source gives no reset value at all and the launch state is an argument of every theorem;
every value here is a DESIGN CHOICE (unsafe; notes/assumptions/2.md): registers, flags and PC zero, hypervisor mode, the two
environments apart (notes/assumptions/4.md), memory with nothing listed. -/
def State.reset : State where
  opts := Config.launchOptions
  a := 0#64
  x := 0#64
  y := 0#64
  sph := 0#64
  spu := 0#64
  br := 0#64
  e := 0#64
  pc := 0#64
  p := ⟨false, false, false, false, false, false⟩
  mode := .hypervisor
  mch := ⟨0, []⟩
  mcu := ⟨2 ^ 64, []⟩
  mem := []
  ctx := .start
  start := 0#64
  opcodeAt := 0#64
  draws := 0

end Sys2Proof.Machine
end

