-- ==== Sys2Proof/Machine/Ops.lean ====
section
/-! DEFINITION. The named operations of the machine: bit fields and extensions (spec/00_scope.md R8), widths and registers
(spec/10_state.md), bytes of memory (spec/20_memory.md), the stack (spec/40_prefixes_and_addressing.md R170), raising and
refusing (spec/60_exceptions.md), and fetching (spec/30_encoding.md R85). -/

namespace Sys2Proof.Machine

/-! ### Bit fields (R8) -/

/-- The low `k` bits of `v`, zeros above: `v[k-1:0]`, and `zext_k` or a truncation to `k` bits. -/
def low (k : Nat) (v : Word) : Word := (v.setWidth k).setWidth 64

/-- `sext_k` of the `j`-bit value in the low bits of `v`. -/
def sext (j k : Nat) (v : Word) : Word := low k ((v.setWidth j).signExtend 64)

/-- `oext_k` of the `j`-bit value in the low bits of `v`: ones above bit `j-1`. -/
def oext (j k : Nat) (v : Word) : Word := low k (low j v ||| ~~~ low j (BitVec.allOnes 64))

/-- `r[k-1:0] <- v`: the bits of `r` from `k` up keep their value. -/
def setLow (k : Nat) (r v : Word) : Word := (r &&& ~~~ low k (BitVec.allOnes 64)) ||| low k v

/-! ### Widths -/

/-- `W`. -/
def State.W (s : State) : Nat := s.opts.regWidth.bits

/-- `AW`. -/
def State.AW (s : State) : Nat := s.opts.addrWidth.bits

/-- An address: `zext_AW`, which truncates where the value is wider (R134). -/
def State.addr (s : State) (v : Word) : Word := low s.AW v

/-- `n = 2^rs`, the operation width in bytes (R150). -/
def State.n (s : State) : Nat := s.ctx.rs.bytes

/-- `w = 8·2^rs`, the RS width in bits (R150). -/
def State.w (s : State) : Nat := 8 * s.n

/-! ### Outcomes (R9) -/

/-- The outcome of an instruction: the reason to stop if there is one, else the next state. -/
def complete (stop : Option Stop) (t : State) : Outcome :=
  match stop with
  | some (.raises f) => .fault f
  | some (.refuses r) => .refused r
  | none => .next t

/-- `refuse(reason)` (R8, R9) if the condition holds. -/
def refuseIf (cond : Bool) (r : Refusal) : Option Stop := if cond then some (.refuses r) else none

/-- TAKING AN EXCEPTION, as far as the source describes one (R900, R912, decision D18): the event is terminal, with the
address of the instruction's first byte and `PC_next` recorded and no state changed (R905). -/
def raise (event : Word → Word → Fault) (s : State) : Stop := .raises (event s.start s.pc)

/-- RETURNING FROM AN EXCEPTION: the source names RTI in a table cell and does not describe it (R418, R913). -/
def returnFromTrap : Stop := .refuses .rtiNotSpecified

/-! ### Mode and environments -/

/-- `MODE`, which is the constant `user` on a processor without hypervisor mode (R30). -/
def State.modeNow (s : State) : Mode := if s.opts.hyp then s.mode else .user

/-- `CUR`, the environment of the current mode (R32). -/
def State.cur (s : State) : Mode := s.modeNow

/-- `env_op`, the environment of data accesses (R158). -/
def State.envFor (s : State) (um : Bool) : Mode := if um then .user else s.cur

/-- The matchcode of an environment (R31). -/
def State.matchcode (s : State) : Mode → Matchcode
  | .user => s.mcu
  | .hypervisor => s.mch

/-- The storage location of an address, as the matchcode defines it (R31, R32). -/
def Matchcode.locate (m : Matchcode) (a : Nat) : Nat := (m.remap.lookup a).getD (m.base + a)

/-- `translate(env, address)` (R32): total, never a fault (R907); the address is taken modulo `2^AW` (R50, decision D28). -/
def State.locate (s : State) (env : Mode) (a : Word) : Nat := (s.matchcode env).locate (s.addr a).toNat

/-! ### Memory (R50, R52) -/

/-- The byte at a location. -/
def Memory.read : Memory → Nat → Byte
  | [], _ => Memory.unlisted
  | (k, b) :: m, a => if a = k then b else Memory.read m a

/-- Storage with the byte at a location replaced, in canonical form. -/
def Memory.write : Memory → Nat → Byte → Memory
  | [], a, b => if b = Memory.unlisted then [] else [(a, b)]
  | (k, c) :: m, a, b =>
    if a < k then (if b = Memory.unlisted then (k, c) :: m else (a, b) :: (k, c) :: m)
    else if a = k then (if b = Memory.unlisted then m else (a, b) :: m)
    else (k, c) :: Memory.write m a b

/-- The byte at an address of an environment. -/
def State.byteAt (s : State) (env : Mode) (a : Word) : Byte := s.mem.read (s.locate env a)

/-- `MemRead(env, a, n)`: the bytes at `a .. a+n-1`, each modulo `2^AW`, lowest first (R52). -/
def State.memRead (s : State) (env : Mode) (a : Word) : Nat → Word
  | 0 => 0
  | n + 1 => (s.byteAt env a).setWidth 64 ||| s.memRead env (a + 1) n <<< 8

/-- The state with one byte of memory written. -/
def State.setByte (s : State) (env : Mode) (a : Word) (b : Byte) : State :=
  { s with mem := s.mem.write (s.locate env a) b }

/-- `MemWrite(env, a, n, v)`: the low `8n` bits of `v`, byte by byte in ascending address order (R52, R55). -/
def State.memWrite (s : State) (env : Mode) (a : Word) : Nat → Word → State
  | 0, _ => s
  | n + 1, v => (s.setByte env a (v.setWidth 8)).memWrite env (a + 1) n (v >>> 8)

/-- A list of bytes stored at `a`, `a+1` and on. -/
def State.storeBytes (s : State) (env : Mode) (a : Word) : List Byte → State
  | [] => s
  | b :: bs => (s.setByte env a b).storeBytes env (a + 1) bs

/-- The `k` bytes at `a`, `a+1` and on. -/
def State.loadBytes (s : State) (env : Mode) (a : Word) : Nat → List Byte
  | 0 => []
  | k + 1 => s.byteAt env a :: s.loadBytes env (a + 1) k

/-! ### Registers -/

/-- The registers that the load, store, compare and increment families name (R21, R22). -/
inductive Reg where
  | a | x | y
  deriving DecidableEq, Repr

/-- A register's `W` bits. -/
def State.reg (s : State) : Reg → Word
  | .a => low s.W s.a
  | .x => low s.W s.x
  | .y => low s.W s.y

/-- The state with a register replaced. -/
def State.setReg (s : State) (r : Reg) (v : Word) : State :=
  match r with
  | .a => { s with a := low s.W v }
  | .x => { s with x := low s.W v }
  | .y => { s with y := low s.W v }

/-- Whether `SP(um)` is the user stack pointer (R23). -/
def State.usesUserStack (s : State) (um : Bool) : Bool := um || s.modeNow == .user

/-- `SP(um)` (R23). -/
def State.sp (s : State) (um : Bool) : Word := low s.W (if s.usesUserStack um then s.spu else s.sph)

/-- The state with `SP(um)` replaced; stack-pointer arithmetic is modulo `2^W` (R170). -/
def State.setSp (s : State) (um : Bool) (v : Word) : State :=
  if s.usesUserStack um then { s with spu := low s.W v } else { s with sph := low s.W v }

/-- `pc <- target` (R8): modulo `2^AW`. -/
def State.setPc (s : State) (v : Word) : State := { s with pc := s.addr v }

/-- `E <- zext_W(v)` (R25). -/
def State.setE (s : State) (v : Word) : State := { s with e := low s.W v }

/-- The state with the flags replaced. -/
def State.setFlags (s : State) (p : Flags) : State := { s with p := p }

/-- The flags an instruction that lists NF leaves: none is written with NF=1 (R160). -/
def State.updateFlags (s : State) (p : Flags) : State := if s.ctx.nf then s else s.setFlags p

/-- The state after `k` free values have been drawn (R8, decision D36). -/
def State.drawn (s : State) (k : Nat) : State := { s with draws := s.draws + k }

/-! ### The stack (R170) -/

/-- The address of the first byte that `Push(k, v)` writes. -/
def State.pushAddr (s : State) (um : Bool) (k : Nat) : Word :=
  match s.opts.stack with
  | .fullDescending => low s.W (s.sp um - BitVec.ofNat 64 k)
  | .emptyDescending => low s.W (s.sp um - BitVec.ofNat 64 k + 1)

/-- `Push(k, v)` on the stack of `SP(um)` in its environment (R158, R170). -/
def State.push (s : State) (um : Bool) (k : Nat) (v : Word) : State :=
  (s.memWrite (s.envFor um) (s.pushAddr um k) k v).setSp um (s.sp um - BitVec.ofNat 64 k)

/-- The address of the first byte that `Pull(k)` reads. -/
def State.pullAddr (s : State) (um : Bool) : Word :=
  match s.opts.stack with
  | .fullDescending => s.sp um
  | .emptyDescending => low s.W (s.sp um + 1)

/-- The value `Pull(k)` reads. -/
def State.pulled (s : State) (um : Bool) (k : Nat) : Word := s.memRead (s.envFor um) (s.pullAddr um) k

/-- The stack pointer after `Pull(k)`. -/
def State.afterPull (s : State) (um : Bool) (k : Nat) : State := s.setSp um (s.sp um + BitVec.ofNat 64 k)

/-! ### Fetching (R85) -/

/-- The bytes a decoding unit can take, from the current environment at PC: an opcode and at most eight operand bytes. -/
def State.fetchWindow (s : State) : List Byte := s.loadBytes s.cur s.pc 9

/-- The unit at PC, and how many bytes it takes. -/
def State.fetchUnit (s : State) : Except DecodeError (Instr × Nat) :=
  match decode s.opts.extMap s.ctx s.fetchWindow with
  | .ok (i, rest) => .ok (i, 9 - rest.length)
  | .error e => .error e

/-- PC advanced over the bytes of a unit; the unit's first byte is an opcode byte if the unit is an opcode. -/
def State.fetched (s : State) (k : Nat) : State :=
  { s with pc := s.addr (s.pc + BitVec.ofNat 64 k), opcodeAt := s.pc }

/-- The first `Fetch` of an instruction starts with every field cleared (R85). -/
def State.beginInstr (s : State) : State := { s with ctx := .start, start := s.addr s.pc, pc := s.addr s.pc }

/-- No prefix state survives an instruction (R33). -/
def State.endInstr (s : State) : State := { s with ctx := .start, start := 0, opcodeAt := 0 }

end Sys2Proof.Machine
end

