-- ==== Sys2Proof/Machine/Flags.lean ====
section
/-! DEFINITION. The flag computations (spec/10_state.md R27 to R29, spec/40_prefixes_and_addressing.md R164) and the
arithmetic they are taken from. Each takes the width `k` of the operation. -/

namespace Sys2Proof.Machine

/-- Bit `k-1`, the top bit of a `k`-bit value. -/
def topBit (k : Nat) (v : Word) : Bool := v.getLsbD (k - 1)

/-- Whether a `k`-bit value is zero. -/
def isZero (k : Nat) (v : Word) : Bool := low k v == 0

/-- `SetNZ(v, k)` (R164). -/
def setNZ (k : Nat) (v : Word) (p : Flags) : Flags := { p with n := topBit k v, z := isZero k v }

/-- The exact sum `a + b + C` of two `k`-bit values, `k+1` bits wide (R244). -/
def exactSum (k : Nat) (a b : Word) (c : Bool) : Nat := (low k a).toNat + (low k b).toNat + c.toNat

/-- The `k`-bit sum `s[k-1:0]` (R244). -/
def sumResult (k : Nat) (a b : Word) (c : Bool) : Word := low k (BitVec.ofNat 64 (exactSum k a b c))

/-- The carry out, `s[k]` (R244). -/
def sumCarry (k : Nat) (a b : Word) (c : Bool) : Bool := decide (2 ^ k ≤ exactSum k a b c)

/-- N, Z, C, V of `ADC` at width `k` (R244). -/
def addFlags (k : Nat) (a b : Word) (p : Flags) : Flags :=
  let r := sumResult k a b p.c
  { setNZ k r p with c := sumCarry k a b p.c, v := (topBit k a == topBit k b) && (topBit k r != topBit k a) }

/-- N, Z, C, V of `SBC` at width `k`, computed as `a + NOT b + C` (R273). -/
def subFlags (k : Nat) (a b : Word) (p : Flags) : Flags :=
  let r := sumResult k a (~~~ b) p.c
  { setNZ k r p with c := sumCarry k a (~~~ b) p.c, v := (topBit k a != topBit k b) && (topBit k r != topBit k a) }

/-- N, Z, C of a compare at width `k` (R257): C is `a ≥ b` unsigned, Z is `a = b`, N the top bit of the difference. -/
def compareFlags (k : Nat) (a b : Word) (p : Flags) : Flags :=
  { p with
    n := topBit k (low k (low k a - low k b))
    z := low k a == low k b
    c := decide ((low k b).toNat ≤ (low k a).toNat) }

/-- Z, N, V of a memory form of BIT at width `k` (R240): N and V are the top two bits of the operand. -/
def bitFlags (k : Nat) (a b : Word) (p : Flags) : Flags :=
  { p with z := isZero k (a &&& b), n := topBit k b, v := b.getLsbD (k - 2) }

/-- Z of `BIT #byte` (R256); N and V stay. -/
def bitImmFlags (k : Nat) (a b : Word) (p : Flags) : Flags := { p with z := isZero k (a &&& b) }

/-- `StatusByte(P)` with B = 1: `N V 1 B D I Z C` from bit 7 down (R29, R350). -/
def statusByte (p : Flags) : Byte :=
  BitVec.ofNat 8 (p.n.toNat * 128 + p.v.toNat * 64 + 32 + 16 + p.d.toNat * 8 + p.i.toNat * 4 + p.z.toNat * 2 + p.c.toNat)

/-- The flags of a pulled status byte; bits 5 and 4 are ignored (R29, R351). -/
def flagsOfByte (v : Word) : Flags where
  n := v.getLsbD 7
  v := v.getLsbD 6
  d := v.getLsbD 3
  i := v.getLsbD 2
  z := v.getLsbD 1
  c := v.getLsbD 0

/-! ### Read-modify-write results: the new value and flags of a `k`-bit value `m`, given A and the old flags -/

/-- A read-modify-write operation: width, A, old flags, old value; the new value and the flags. -/
abbrev Rmw := Nat → Word → Flags → Word → Word × Flags

/-- ASL (R371): C is the bit shifted out. -/
def rmwAsl : Rmw := fun k _ p m =>
  let r := low k (m <<< 1)
  (r, { setNZ k r p with c := topBit k m })

/-- LSR (R386). -/
def rmwLsr : Rmw := fun k _ p m =>
  let r := low k m >>> 1
  (r, { setNZ k r p with c := m.getLsbD 0 })

/-- ROL (R380): the old C enters at bit 0. -/
def rmwRol : Rmw := fun k _ p m =>
  let r := low k (m <<< 1 ||| BitVec.ofNat 64 p.c.toNat)
  (r, { setNZ k r p with c := topBit k m })

/-- ROR (R391): the old C enters at bit `k-1`. -/
def rmwRor : Rmw := fun k _ p m =>
  let r := low k (BitVec.ofNat 64 p.c.toNat <<< (k - 1) ||| low k m >>> 1)
  (r, { setNZ k r p with c := m.getLsbD 0 })

/-- INC, INX, INY (R403, R404). -/
def rmwInc : Rmw := fun k _ p m =>
  let r := low k (m + 1)
  (r, setNZ k r p)

/-- DEC, DEX, DEY (R397, R399). -/
def rmwDec : Rmw := fun k _ p m =>
  let r := low k (m - 1)
  (r, setNZ k r p)

/-- TSB (R370): Z from memory AND A before the write, N untouched. -/
def rmwTsb : Rmw := fun k a p m => (low k (m ||| a), { p with z := isZero k (m &&& a) })

/-- TRB (R375). -/
def rmwTrb : Rmw := fun k a p m => (low k (m &&& ~~~ a), { p with z := isZero k (m &&& a) })

end Sys2Proof.Machine
end

