-- ==== Sys2Proof/Machine/Operands.lean ====
section
/-! DEFINITION. The shared operand procedures of spec/40_prefixes_and_addressing.md: `CheckPrefix` (R162), the effective
addresses (R134 to R139), `ReadOp` (R163), `Extend` (R152), `LoadReg` (R165) and what limits a jump or a call (R171, R172).
What can stop an instruction and what it then does are kept apart: a `check…` answers the reason to stop, and the other
functions are total. -/

namespace Sys2Proof.Machine

/-! ### Which prefix fields a cell lists (R97) -/

/-- How a cell lists AM: not at all, as `AM`, or as `AM=1` (R97, R162). -/
inductive AmRule where
  | no | either | required
  deriving DecidableEq, Repr

/-- The prefix fields that a cell lists (R97). -/
structure Listed where
  nf : Bool
  rs : Bool
  um : Bool
  of : Bool
  le : Bool
  am : AmRule
  deriving DecidableEq, Repr

/-- A cell that lists NF, RS, UM, OF, LE, AM. -/
def Listed.nfRsUmOfLeAm : Listed :=
  ⟨true, true, true, true, true, .either⟩

/-- A cell that lists NF, RS, UM, OF, LE, AM=1. -/
def Listed.nfRsUmOfLeAm1 : Listed :=
  ⟨true, true, true, true, true, .required⟩

/-- A cell that lists NF, RS, LE. -/
def Listed.nfRsLe : Listed :=
  ⟨true, true, false, false, true, .no⟩

/-- A cell that lists RS, LE. -/
def Listed.rsLe : Listed :=
  ⟨false, true, false, false, true, .no⟩

/-- A cell that lists RS, UM, OF, LE, AM. -/
def Listed.rsUmOfLeAm : Listed :=
  ⟨false, true, true, true, true, .either⟩

/-- A cell that lists RS, UM, OF, LE, AM=1. -/
def Listed.rsUmOfLeAm1 : Listed :=
  ⟨false, true, true, true, true, .required⟩

/-- A cell that lists RS, UM, OF, AM. -/
def Listed.rsUmOfAm : Listed :=
  ⟨false, true, true, true, false, .either⟩

/-- A cell that lists RS, UM, OF, AM=1. -/
def Listed.rsUmOfAm1 : Listed :=
  ⟨false, true, true, true, false, .required⟩

/-- A cell that lists RS, UM. -/
def Listed.rsUm : Listed :=
  ⟨false, true, true, false, false, .no⟩

/-- A cell that lists no field. -/
def Listed.nothing : Listed :=
  ⟨false, false, false, false, false, .no⟩

/-- A cell that lists NF, RS, UM, LE. -/
def Listed.nfRsUmLe : Listed :=
  ⟨true, true, true, false, true, .no⟩

/-- A cell that lists RS, UM, LE. -/
def Listed.rsUmLe : Listed :=
  ⟨false, true, true, false, true, .no⟩

/-- A cell that lists NF, RS, UM, OF, AM. -/
def Listed.nfRsUmOfAm : Listed :=
  ⟨true, true, true, true, false, .either⟩

/-- A cell that lists NF, RS. -/
def Listed.nfRs : Listed :=
  ⟨true, true, false, false, false, .no⟩

/-- A cell that lists RS. -/
def Listed.onlyRs : Listed :=
  ⟨false, true, false, false, false, .no⟩

/-- A cell that lists UM, OF, LE, AM=1. -/
def Listed.umOfLeAm1 : Listed :=
  ⟨false, false, true, true, true, .required⟩

/-- A cell that lists RS, OF, LE, AM. -/
def Listed.rsOfLeAm : Listed :=
  ⟨false, true, false, true, true, .either⟩

/-- A cell that lists RS, AM. -/
def Listed.rsAm : Listed :=
  ⟨false, true, false, false, false, .either⟩

/-- A cell that lists UM, OF, LE, AM. -/
def Listed.umOfLeAm : Listed :=
  ⟨false, false, true, true, true, .either⟩

/-- A cell that lists RS, OF, LE, AM=1. -/
def Listed.rsOfLeAm1 : Listed :=
  ⟨false, true, false, true, true, .required⟩

/-- A cell that lists NF, RS, UM. -/
def Listed.nfRsUm : Listed :=
  ⟨true, true, true, false, false, .no⟩

/-- A cell that lists UM, LE. -/
def Listed.umLe : Listed :=
  ⟨false, false, true, false, true, .no⟩

/-- A cell that lists NF, UM, OF, AM. -/
def Listed.nfUmOfAm : Listed :=
  ⟨true, false, true, true, false, .either⟩

/-! ### CheckPrefix (R162) -/

/-- The refusals about fields that are not listed (R162, decision D6); a prefix2 with LE=00 sets no LE. -/
def checkListed (l : Listed) (s : State) : Option Stop :=
  (refuseIf (s.ctx.of != .none && !l.of) (.unlistedField .of)).or <|
  (refuseIf (s.ctx.rs != .b8 && !l.rs) (.unlistedField .rs)).or <|
  (refuseIf (s.ctx.am && l.am == .no) (.unlistedField .am)).or <|
  (refuseIf (!s.ctx.am && l.am == .required) .amRequired).or <|
  (refuseIf (s.ctx.um && !l.um) (.unlistedField .um)).or <|
  (refuseIf (s.ctx.nf && !l.nf) (.unlistedField .nf)).or <|
  refuseIf ((match s.ctx.prefix2 with | some p => p.le != .none | none => false) && !l.le) (.unlistedField .le)

/-- UM=1 is privileged (R159, R901): refused without hypervisor mode, an abort in user mode. -/
def checkUm (s : State) : Option Stop :=
  if s.ctx.um then
    if !s.opts.hyp then some (.refuses .umWithoutHypervisor)
    else if s.modeNow == .user then some (raise .abortUmInUserMode s)
    else none
  else none

/-- The RS width may not exceed the register width where RS sizes data (R151). -/
def checkWidth (s : State) : Option Stop := refuseIf (decide (s.W < s.w)) .widthAboveRegister

/-- OF=01 needs `PCREL_BASE` (R137). -/
def checkPcrel (s : State) : Option Stop :=
  refuseIf (s.ctx.of == .pc && s.opts.pcrelBase.isNone) .pcrelBaseUnset

/-- `CheckPrefix(cell)` where RS sizes data (R162), in the order of R911. -/
def checkPrefix (l : Listed) (s : State) : Option Stop :=
  (checkListed l s).or <| (checkUm s).or <| (checkWidth s).or <| checkPcrel s

/-- `CheckPrefix(cell)` where RS sizes an offset or a return address, or nothing (R151, R162). -/
def checkPrefixNoWidth (l : Listed) (s : State) : Option Stop :=
  (checkListed l s).or <| (checkUm s).or <| checkPcrel s

/-! ### Effective addresses -/

/-- `PCrel()`, the address that OF=01 adds (R137). -/
def State.pcRel (s : State) : Word :=
  match s.opts.pcrelBase with
  | some .firstByte => s.start
  | some .opcodeByte => s.opcodeAt
  | some .nextInstruction => s.pc
  | none => 0

/-- `OffReg()` (R134). -/
def State.offReg (s : State) : Word :=
  match s.ctx.of with
  | .none => 0
  | .pc => s.addr s.pcRel
  | .sp => s.addr (s.sp s.ctx.um)
  | .br => s.addr (low s.W s.br)

/-- The index register that a mode adds before any indirection: X, Y or nothing (R135, R136). -/
def State.indexBefore (s : State) (mode : AddrMode) : Word :=
  match mode with
  | .zpX | .absX | .indZpX | .indAbsX | .quadZpX | .quadAbsX => s.reg .x
  | .zpY | .absY => s.reg .y
  | _ => 0

/-- The index register that a mode adds to the stored address: Y or nothing (R136). -/
def State.indexAfter (s : State) (mode : AddrMode) : Word :=
  match mode with
  | .indZpY | .indAbsY | .quadZpY | .quadAbsY => s.reg .y
  | _ => 0

/-- `psize`, the bytes of the stored address of an indirect mode: a word, with AM=1 a long, for `( )`, a quad for `[[ ]]`;
0 for a mode that is not indirect (R132, R136). -/
def pointerSize (mode : AddrMode) (am : Bool) : Nat :=
  match mode with
  | .indZp | .indZpX | .indZpY | .indAbs | .indAbsX | .indAbsY => if am then 4 else 2
  | .quadZp | .quadZpX | .quadZpY | .quadAbs | .quadAbsX | .quadAbsY => 8
  | _ => 0

/-- Whether a mode has an 8-bit address operand when AM=0 (R135, R136). -/
def isZeroPage : AddrMode → Bool
  | .zpX | .zpY | .indZp | .indZpX | .indZpY | .quadZp | .quadZpX | .quadZpY => true
  | _ => false

/-- `operand + OffReg() + index`, the address of a direct mode, and where an indirect mode finds its stored address
(R135, R136). -/
def directEA (mode : AddrMode) (op : Word) (s : State) : Word := s.addr (op + s.offReg + s.indexBefore mode)

/-- The signed offset of a relative mode, from its operand bytes (R93, R139). -/
def relOffset (mode : AddrMode) (op : Word) (s : State) : Word :=
  sext (8 * mode.operandBytes s.ctx.am s.ctx.rs) 64 op

/-- `EA(mode)` (R135, R136, R138, R139); `env` is the environment a stored address is read in (R158). -/
def effectiveAddress (mode : AddrMode) (op : Word) (env : Mode) (s : State) : Word :=
  match mode with
  | .indE => s.addr (low s.W s.e)
  | .branch | .relByte | .relWide => s.addr (s.pc + relOffset mode op s)
  | .implied | .imm | .trapCode => 0
  | .zp | .zpX | .zpY | .abs | .absX | .absY | .long => directEA mode op s
  | .indZp | .indZpX | .indZpY | .indAbs | .indAbsX | .indAbsY
  | .quadZp | .quadZpX | .quadZpY | .quadAbs | .quadAbsX | .quadAbsY =>
    s.addr (s.memRead env (directEA mode op s) (pointerSize mode s.ctx.am) + s.indexAfter mode)

/-- The effective address of a data access, in `env_op` (R158). -/
def State.ea (s : State) (mode : AddrMode) (op : Word) : Word := effectiveAddress mode op (s.envFor s.ctx.um) s

/-- The zero-page agreement condition (R135, R136, decision D14): with AM=0 and OF=00 the indexed zero-page address, or the
last byte of a stored address read through page zero, may not pass `$FF`. The sum is exact. -/
def checkZeroPage (mode : AddrMode) (op : Word) (s : State) : Option Stop :=
  refuseIf
    (isZeroPage mode && !s.ctx.am && s.ctx.of == .none &&
      decide (0x100 ≤ op.toNat + (s.indexBefore mode).toNat + (pointerSize mode s.ctx.am - 1)))
    .zeroPageWrap

/-- What can stop an instruction with a data operand (R162, R135, R136). -/
def checkData (l : Listed) (mode : AddrMode) (op : Word) (s : State) : Option Stop :=
  (checkPrefix l s).or (checkZeroPage mode op s)

/-! ### Operands and load extension -/

/-- `ReadOp(mode)`: the `w`-bit operand (R163). -/
def State.readOp (s : State) (mode : AddrMode) (op : Word) : Word :=
  match mode with
  | .imm => low s.w op
  | _ => s.memRead (s.envFor s.ctx.um) (s.ea mode op) s.n

/-- `le_eff` (R153): the LE field of a prefix2 that is present, even 00; otherwise the default of the opcode. -/
def State.leEff (s : State) (default : LoadExt) : LoadExt :=
  match s.ctx.prefix2 with
  | some p => p.le
  | none => default

/-- The width `opw` of the operation (R152, R154). -/
def State.opWidth (s : State) (le : LoadExt) : Nat :=
  match le with
  | .none => s.w
  | _ => s.W

/-- The value `b` of `Extend(m)` (R152). -/
def State.extend (s : State) (le : LoadExt) (m : Word) : Word :=
  match le with
  | .none => low s.w m
  | .sign => sext s.w s.W m
  | .zero => low s.W (low s.w m)
  | .ones => oext s.w s.W m

/-- `LoadReg`'s new value of a register that held `old`, loaded with the `w`-bit value `m` (R165): the low `w` bits when no
extension is in force, else all `W` bits. Loads, pulls and transfers extend with zeros by default (R153). -/
def State.loaded (s : State) (old m : Word) : Word :=
  match s.leEff .zero with
  | .none => setLow s.w old m
  | le => s.extend le m

/-! ### Jumps and calls -/

/-- `retbytes` (R171). -/
def State.retBytes (s : State) : Nat :=
  match s.ctx.rs with
  | .b8 => s.opts.addrWidth.bytes
  | _ => s.n

/-- A return address must be `AW` bits wide (R171, decision D29). -/
def checkReturn (s : State) : Option Stop := refuseIf (8 * s.retBytes != s.AW) .returnWidth

/-- `k`, the width of a jump target before extension (R172): the operand's width for a direct form, `AW` if a full register
was added; the stored address's width for an indirect form; `AW` for `(E)`. -/
def targetWidth (mode : AddrMode) (s : State) : Nat :=
  match mode with
  | .abs | .absX | .absY | .zp | .zpX | .zpY | .long =>
    if s.ctx.of = .none then min s.AW (8 * mode.operandBytes s.ctx.am s.ctx.rs) else s.AW
  | .indZp | .indZpX | .indZpY | .indAbs | .indAbsX | .indAbsY
  | .quadZp | .quadZpX | .quadZpY | .quadAbs | .quadAbsX | .quadAbsY => min s.AW (8 * pointerSize mode s.ctx.am)
  | _ => s.AW

/-- The refusals of `JumpTo(t, k)` (R172, decisions D24, D41). -/
def checkJump (mode : AddrMode) (s : State) : Option Stop :=
  (refuseIf (decide (targetWidth mode s < s.AW) && s.addr s.pc >>> targetWidth mode s != 0) .jumpUpperBits).or <|
  (refuseIf (match s.ctx.prefix2 with | some p => p.le == .sign || p.le == .ones | none => false) .jumpLe).or <|
  refuseIf s.ctx.um .jumpUm

/-- The `long` operand of JMP and JSR with AM=1 is refused (decision D27). -/
def checkLong (mode : AddrMode) (s : State) : Option Stop := refuseIf (mode == .long && s.ctx.am) .longWithAm

end Sys2Proof.Machine
end

