-- ==== Sys2Proof/Machine/Arith.lean ====
section
/-! DEFINITION. ADC and SBC (spec/42_std_arith_compare_bit.md, and their `(E)` forms in spec/47_ext_6502_ops.md). One definition per instruction, over the shared operations of
this file. -/

namespace Sys2Proof.Machine

/-- What can stop ADC and SBC: also decimal mode (decision D15). -/
def checkArith (l : Listed) (mode : AddrMode) (op : Word) (s : State) : Option Stop :=
  (checkPrefix l s).or <| (refuseIf s.p.d .decimalMode).or (checkZeroPage mode op s)

/-- The next state of ADC: `A[opw-1:0] <- a + b + C` (R244). -/
def adcNext (mode : AddrMode) (op : Word) (s : State) : State :=
  let le := s.leEff .none
  let k := s.opWidth le
  let b := s.extend le (s.readOp mode op)
  (s.setReg .a (setLow k (s.reg .a) (sumResult k (s.reg .a) b s.p.c))).updateFlags (addFlags k (s.reg .a) b s.p)

/-- The next state of SBC: `A[opw-1:0] <- a + NOT b + C` (R273). -/
def sbcNext (mode : AddrMode) (op : Word) (s : State) : State :=
  let le := s.leEff .none
  let k := s.opWidth le
  let b := s.extend le (s.readOp mode op)
  (s.setReg .a (setLow k (s.reg .a) (sumResult k (s.reg .a) (~~~ b) s.p.c))).updateFlags (subFlags k (s.reg .a) b s.p)

/-- An ADC instruction. -/
def adcOp (l : Listed) (mode : AddrMode) (op : Word) (s : State) : Outcome :=
  complete (checkArith l mode op s) (adcNext mode op s)

/-- An SBC instruction. -/
def sbcOp (l : Listed) (mode : AddrMode) (op : Word) (s : State) : Outcome :=
  complete (checkArith l mode op s) (sbcNext mode op s)

/-- R244: `ADC (zp,X)`, opcode `61`. -/
def execAdcIndZpX (op : Word) (s : State) : Outcome := adcOp .nfRsUmOfLeAm .indZpX op s

/-- R245: `ADC [[zp,X]]`, opcode `63`. -/
def execAdcQuadZpX (op : Word) (s : State) : Outcome := adcOp .nfRsUmOfLeAm1 .quadZpX op s

/-- R246: `ADC zp`, opcode `65`. -/
def execAdcZp (op : Word) (s : State) : Outcome := adcOp .nfRsUmOfLeAm .zp op s

/-- R247: `ADC #byte`, opcode `69`. -/
def execAdcImm (op : Word) (s : State) : Outcome := adcOp .nfRsLe .imm op s

/-- R248: `ADC abs`, opcode `6D`. -/
def execAdcAbs (op : Word) (s : State) : Outcome := adcOp .nfRsUmOfLeAm .abs op s

/-- R249: `ADC (zp),Y`, opcode `71`. -/
def execAdcIndZpY (op : Word) (s : State) : Outcome := adcOp .nfRsUmOfLeAm .indZpY op s

/-- R250: `ADC (zp)`, opcode `72`. -/
def execAdcIndZp (op : Word) (s : State) : Outcome := adcOp .nfRsUmOfLeAm .indZp op s

/-- R251: `ADC [[zp]],Y`, opcode `73`. -/
def execAdcQuadZpY (op : Word) (s : State) : Outcome := adcOp .nfRsUmOfLeAm1 .quadZpY op s

/-- R252: `ADC zp,X`, opcode `75`. -/
def execAdcZpX (op : Word) (s : State) : Outcome := adcOp .nfRsUmOfLeAm .zpX op s

/-- R253: `ADC [[zp]]`, opcode `77`. -/
def execAdcQuadZp (op : Word) (s : State) : Outcome := adcOp .nfRsUmOfLeAm1 .quadZp op s

/-- R254: `ADC abs,Y`, opcode `79`. -/
def execAdcAbsY (op : Word) (s : State) : Outcome := adcOp .nfRsUmOfLeAm .absY op s

/-- R255: `ADC abs,X`, opcode `7D`. -/
def execAdcAbsX (op : Word) (s : State) : Outcome := adcOp .nfRsUmOfLeAm .absX op s

/-- R273: `SBC (zp,X)`, opcode `E1`. -/
def execSbcIndZpX (op : Word) (s : State) : Outcome := sbcOp .nfRsUmOfLeAm .indZpX op s

/-- R274: `SBC [[zp,X]]`, opcode `E3`. -/
def execSbcQuadZpX (op : Word) (s : State) : Outcome := sbcOp .nfRsUmOfLeAm1 .quadZpX op s

/-- R276: `SBC zp`, opcode `E5`. -/
def execSbcZp (op : Word) (s : State) : Outcome := sbcOp .nfRsUmOfLeAm .zp op s

/-- R277: `SBC #byte`, opcode `E9`. -/
def execSbcImm (op : Word) (s : State) : Outcome := sbcOp .nfRsLe .imm op s

/-- R279: `SBC abs`, opcode `ED`. -/
def execSbcAbs (op : Word) (s : State) : Outcome := sbcOp .nfRsUmOfLeAm .abs op s

/-- R280: `SBC (zp),Y`, opcode `F1`. -/
def execSbcIndZpY (op : Word) (s : State) : Outcome := sbcOp .nfRsUmOfLeAm .indZpY op s

/-- R281: `SBC (zp)`, opcode `F2`. -/
def execSbcIndZp (op : Word) (s : State) : Outcome := sbcOp .nfRsUmOfLeAm .indZp op s

/-- R282: `SBC [[zp]],Y`, opcode `F3`. -/
def execSbcQuadZpY (op : Word) (s : State) : Outcome := sbcOp .nfRsUmOfLeAm1 .quadZpY op s

/-- R283: `SBC zp,X`, opcode `F5`. -/
def execSbcZpX (op : Word) (s : State) : Outcome := sbcOp .nfRsUmOfLeAm .zpX op s

/-- R284: `SBC [[zp]]`, opcode `F7`. -/
def execSbcQuadZp (op : Word) (s : State) : Outcome := sbcOp .nfRsUmOfLeAm1 .quadZp op s

/-- R285: `SBC abs,Y`, opcode `F9`. -/
def execSbcAbsY (op : Word) (s : State) : Outcome := sbcOp .nfRsUmOfLeAm .absY op s

/-- R286: `SBC abs,X`, opcode `FD`. -/
def execSbcAbsX (op : Word) (s : State) : Outcome := sbcOp .nfRsUmOfLeAm .absX op s

/-- R464: `ADC (E)`, opcode `0F 69`. -/
def execAdcIndE (s : State) : Outcome := adcOp .nfRsUmLe .indE 0 s

/-- R485: `SBC (E)`, opcode `0F E9`. -/
def execSbcIndE (s : State) : Outcome := sbcOp .nfRsUmLe .indE 0 s

end Sys2Proof.Machine
end

