-- ==== Sys2Proof/Machine/Compare.lean ====
section
/-! DEFINITION. CMP, CPX, CPY and BIT (spec/42_std_arith_compare_bit.md, and their EXT-page forms in spec/47_ext_6502_ops.md). One definition per instruction, over the shared operations of
this file. -/

namespace Sys2Proof.Machine

/-- The next state of a compare: flags only, always written because no compare lists NF (R257). -/
def compareNext (r : Reg) (mode : AddrMode) (op : Word) (s : State) : State :=
  let le := s.leEff .none
  s.setFlags (compareFlags (s.opWidth le) (s.reg r) (s.extend le (s.readOp mode op)) s.p)

/-- A compare instruction. -/
def compareOp (r : Reg) (l : Listed) (mode : AddrMode) (op : Word) (s : State) : Outcome :=
  complete (checkData l mode op s) (compareNext r mode op s)

/-- The next state of BIT with an operand: flags only (R240, R256). -/
def bitNext (f : Nat → Word → Word → Flags → Flags) (mode : AddrMode) (op : Word) (s : State) : State :=
  let le := s.leEff .none
  s.updateFlags (f (s.opWidth le) (s.reg .a) (s.extend le (s.readOp mode op)) s.p)

/-- A BIT instruction with an operand. -/
def bitOp (f : Nat → Word → Word → Flags → Flags) (l : Listed) (mode : AddrMode) (op : Word) (s : State) : Outcome :=
  complete (checkData l mode op s) (bitNext f mode op s)

/-- The next state of BIT on A: N and Z from A at width `w`, V a free value, with NF=0 (R459, decision D36). -/
def bitAccNext (s : State) : State :=
  if s.ctx.nf then s
  else (s.setFlags { setNZ s.w (s.reg .a) s.p with v := Config.freeBit s.draws }).drawn 1

/-- R240: `BIT zp`, opcode `24`. -/
def execBitZp (op : Word) (s : State) : Outcome := bitOp bitFlags .nfRsUmOfLeAm .zp op s

/-- R241: `BIT abs`, opcode `2C`. -/
def execBitAbs (op : Word) (s : State) : Outcome := bitOp bitFlags .nfRsUmOfLeAm .abs op s

/-- R242: `BIT zp,X`, opcode `34`. -/
def execBitZpX (op : Word) (s : State) : Outcome := bitOp bitFlags .nfRsUmOfLeAm .zpX op s

/-- R243: `BIT abs,X`, opcode `3C`. -/
def execBitAbsX (op : Word) (s : State) : Outcome := bitOp bitFlags .nfRsUmOfLeAm .absX op s

/-- R256: `BIT #byte`, opcode `89`. -/
def execBitImm (op : Word) (s : State) : Outcome := bitOp bitImmFlags .nfRsLe .imm op s

/-- R257: `CPY #byte`, opcode `C0`. -/
def execCpyImm (op : Word) (s : State) : Outcome := compareOp .y .rsLe .imm op s

/-- R258: `CMP (zp,X)`, opcode `C1`. -/
def execCmpIndZpX (op : Word) (s : State) : Outcome := compareOp .a .rsUmOfLeAm .indZpX op s

/-- R259: `CMP [[zp,X]]`, opcode `C3`. -/
def execCmpQuadZpX (op : Word) (s : State) : Outcome := compareOp .a .rsUmOfLeAm1 .quadZpX op s

/-- R260: `CPY zp`, opcode `C4`. -/
def execCpyZp (op : Word) (s : State) : Outcome := compareOp .y .rsUmOfLeAm .zp op s

/-- R261: `CMP zp`, opcode `C5`. -/
def execCmpZp (op : Word) (s : State) : Outcome := compareOp .a .rsUmOfLeAm .zp op s

/-- R262: `CMP #byte`, opcode `C9`. -/
def execCmpImm (op : Word) (s : State) : Outcome := compareOp .a .rsLe .imm op s

/-- R263: `CPY abs`, opcode `CC`. -/
def execCpyAbs (op : Word) (s : State) : Outcome := compareOp .y .rsUmOfLeAm .abs op s

/-- R264: `CMP abs`, opcode `CD`. -/
def execCmpAbs (op : Word) (s : State) : Outcome := compareOp .a .rsUmOfLeAm .abs op s

/-- R265: `CMP (zp),Y`, opcode `D1`. -/
def execCmpIndZpY (op : Word) (s : State) : Outcome := compareOp .a .rsUmOfLeAm .indZpY op s

/-- R266: `CMP (zp)`, opcode `D2`. -/
def execCmpIndZp (op : Word) (s : State) : Outcome := compareOp .a .rsUmOfLeAm .indZp op s

/-- R267: `CMP [[zp]],Y`, opcode `D3`. -/
def execCmpQuadZpY (op : Word) (s : State) : Outcome := compareOp .a .rsUmOfLeAm1 .quadZpY op s

/-- R268: `CMP zp,X`, opcode `D5`. -/
def execCmpZpX (op : Word) (s : State) : Outcome := compareOp .a .rsUmOfLeAm .zpX op s

/-- R269: `CMP [[zp]]`, opcode `D7`. -/
def execCmpQuadZp (op : Word) (s : State) : Outcome := compareOp .a .rsUmOfLeAm1 .quadZp op s

/-- R270: `CMP abs,Y`, opcode `D9`. -/
def execCmpAbsY (op : Word) (s : State) : Outcome := compareOp .a .rsUmOfLeAm .absY op s

/-- R271: `CMP abs,X`, opcode `DD`. -/
def execCmpAbsX (op : Word) (s : State) : Outcome := compareOp .a .rsUmOfLeAm .absX op s

/-- R272: `CPX #byte`, opcode `E0`. -/
def execCpxImm (op : Word) (s : State) : Outcome := compareOp .x .rsLe .imm op s

/-- R275: `CPX zp`, opcode `E4`. -/
def execCpxZp (op : Word) (s : State) : Outcome := compareOp .x .rsUmOfLeAm .zp op s

/-- R278: `CPX abs`, opcode `EC`. -/
def execCpxAbs (op : Word) (s : State) : Outcome := compareOp .x .rsUmOfLeAm .abs op s

/-- R459: `BIT A`, opcode `0F 33`. -/
def execBitAcc (s : State) : Outcome := complete (checkPrefix .nfRs s) (bitAccNext s)

/-- R468: `BIT (E)`, opcode `0F 89`. -/
def execBitIndE (s : State) : Outcome := bitOp bitFlags .nfRsUmLe .indE 0 s

/-- R479: `CPY (E)`, opcode `0F C0`. -/
def execCpyIndE (s : State) : Outcome := compareOp .y .rsUmLe .indE 0 s

/-- R480: `CMP (E)`, opcode `0F C9`. -/
def execCmpIndE (s : State) : Outcome := compareOp .a .rsUmLe .indE 0 s

/-- R484: `CPX (E)`, opcode `0F E0`. -/
def execCpxIndE (s : State) : Outcome := compareOp .x .rsUmLe .indE 0 s

end Sys2Proof.Machine
end

