-- ==== Sys2Proof/Machine/Control.lean ====
section
/-! DEFINITION. Branches, jumps, calls, returns, traps, flag instructions and NOP (spec/46_std_control_and_pages.md, and JMP and
JSR of spec/47_ext_6502_ops.md). One definition per instruction, over the shared operations of
this file. -/

namespace Sys2Proof.Machine

/-- The next state of a branch: PC is `PC_next` plus the signed offset if the branch is taken, else it stays (R412). -/
def branchNext (taken : Bool) (op : Word) (s : State) : State :=
  if taken then s.setPc (s.ea .branch op) else s

/-- A branch instruction; RS sizes its offset. -/
def branchOp (taken : Bool) (l : Listed) (op : Word) (s : State) : Outcome :=
  complete (checkPrefixNoWidth l s) (branchNext taken op s)

/-- What can stop a JMP (R172, decision D27). -/
def checkJmp (l : Listed) (mode : AddrMode) (s : State) : Option Stop :=
  (checkPrefixNoWidth l s).or <| (checkLong mode s).or (checkJump mode s)

/-- A JMP instruction: `JumpTo(EA(mode), k)` (R420). -/
def jmpOp (l : Listed) (mode : AddrMode) (op : Word) (s : State) : Outcome :=
  complete (checkJmp l mode s) (s.setPc (s.ea mode op))

/-- The state after a call has pushed its return address, the address of its last byte, on the stack of the current mode
(R171). -/
def pushReturn (s : State) : State := s.push false s.retBytes (s.addr (s.pc - 1))

/-- What can stop a JSR (R171, R172, decisions D27, D29). -/
def checkJsr (l : Listed) (mode : AddrMode) (s : State) : Option Stop :=
  (checkPrefixNoWidth l s).or <| (checkLong mode s).or <| (checkReturn s).or (checkJump mode s)

/-- A JSR instruction: the target is read before the return address is pushed (R414). -/
def jsrOp (l : Listed) (mode : AddrMode) (op : Word) (s : State) : Outcome :=
  complete (checkJsr l mode s) ((pushReturn s).setPc (s.ea mode op))

/-- A BSR instruction (R419, R429). -/
def bsrOp (l : Listed) (mode : AddrMode) (op : Word) (s : State) : Outcome :=
  complete ((checkPrefixNoWidth l s).or (checkReturn s)) ((pushReturn s).setPc (s.ea mode op))

/-- The next state of RTS: PC is the address pulled plus 1 (R423). -/
def rtsNext (s : State) : State := (s.afterPull false s.retBytes).setPc (s.pulled false s.retBytes + 1)

/-- R410: `BRK #byte`, opcode `00`. RS sizes its immediate, so R151 and decision D10 refuse a width above `W`; R410's own comment
says otherwise (DESIGN CHOICE, notes/assumptions/18.md). -/
def execBrk (op : Word) (s : State) : Outcome :=
  complete ((checkPrefix .onlyRs s).or (some (raise (.trap .brk op) s))) s

/-- R411: `JMP [[abs]]`, opcode `07`. -/
def execJmpQuadAbs (op : Word) (s : State) : Outcome := jmpOp .umOfLeAm1 .quadAbs op s

/-- R412: `BPL rel`, opcode `10`. -/
def execBpl (op : Word) (s : State) : Outcome := branchOp (!s.p.n) .onlyRs op s

/-- R414: `JSR abs`, opcode `20`. -/
def execJsrAbs (op : Word) (s : State) : Outcome := jsrOp .rsOfLeAm .abs op s

/-- R415: `JMP [[abs,X]]`, opcode `27`. -/
def execJmpQuadAbsX (op : Word) (s : State) : Outcome := jmpOp .umOfLeAm1 .quadAbsX op s

/-- R416: `BMI rel`, opcode `30`. -/
def execBmi (op : Word) (s : State) : Outcome := branchOp (s.p.n) .onlyRs op s

/-- R419: `BSR relwide`, opcode `44`. -/
def execBsrRelWide (op : Word) (s : State) : Outcome := bsrOp .rsAm .relWide op s

/-- R420: `JMP abs`, opcode `4C`. -/
def execJmpAbs (op : Word) (s : State) : Outcome := jmpOp .umOfLeAm .abs op s

/-- R421: `BVC rel`, opcode `50`. -/
def execBvc (op : Word) (s : State) : Outcome := branchOp (!s.p.v) .onlyRs op s

/-- R424: `JMP (abs)`, opcode `6C`. -/
def execJmpIndAbs (op : Word) (s : State) : Outcome := jmpOp .umOfLeAm .indAbs op s

/-- R425: `BVS rel`, opcode `70`. -/
def execBvs (op : Word) (s : State) : Outcome := branchOp (s.p.v) .onlyRs op s

/-- R427: `JMP (abs,X)`, opcode `7C`. -/
def execJmpIndAbsX (op : Word) (s : State) : Outcome := jmpOp .umOfLeAm .indAbsX op s

/-- R428: `BRA rel`, opcode `80`. -/
def execBra (op : Word) (s : State) : Outcome := branchOp true .onlyRs op s

/-- R429: `BSR rel`, opcode `82`. -/
def execBsrRelByte (op : Word) (s : State) : Outcome := bsrOp .rsAm .relByte op s

/-- R430: `JSR [[abs]]`, opcode `87`. -/
def execJsrQuadAbs (op : Word) (s : State) : Outcome := jsrOp .rsOfLeAm1 .quadAbs op s

/-- R431: `BCC rel`, opcode `90`. -/
def execBcc (op : Word) (s : State) : Outcome := branchOp (!s.p.c) .onlyRs op s

/-- R432: `JSR [[abs,X]]`, opcode `A7`. -/
def execJsrQuadAbsX (op : Word) (s : State) : Outcome := jsrOp .rsOfLeAm1 .quadAbsX op s

/-- R433: `BCS rel`, opcode `B0`. -/
def execBcs (op : Word) (s : State) : Outcome := branchOp (s.p.c) .onlyRs op s

/-- R435: `BNE rel`, opcode `D0`. -/
def execBne (op : Word) (s : State) : Outcome := branchOp (!s.p.z) .onlyRs op s

/-- R437: `JSR (abs)`, opcode `DC`. -/
def execJsrIndAbs (op : Word) (s : State) : Outcome := jsrOp .rsOfLeAm .indAbs op s

/-- R439: `BEQ rel`, opcode `F0`. -/
def execBeq (op : Word) (s : State) : Outcome := branchOp (s.p.z) .onlyRs op s

/-- R440: `TRP #byte`, opcode `F4`. -/
def execTrp (op : Word) (s : State) : Outcome :=
  complete ((checkPrefixNoWidth .nothing s).or (some (raise (.trap .trp op) s))) s

/-- R442: `JSR (abs,X)`, opcode `FC`. -/
def execJsrIndAbsX (op : Word) (s : State) : Outcome := jsrOp .rsOfLeAm .indAbsX op s

/-- R465: `JMP long`, opcode `0F 6C`. -/
def execJmpLong (op : Word) (s : State) : Outcome := jmpOp .umOfLeAm .long op s

/-- R483: `JSR long`, opcode `0F DC`. -/
def execJsrLong (op : Word) (s : State) : Outcome := jsrOp .rsOfLeAm .long op s

/-- R413: `CLC`, opcode `18`. -/
def execClc (s : State) : Outcome := complete (checkPrefixNoWidth .nothing s) (s.setFlags { s.p with c := false })

/-- R417: `SEC`, opcode `38`. -/
def execSec (s : State) : Outcome := complete (checkPrefixNoWidth .nothing s) (s.setFlags { s.p with c := true })

/-- R418: `RTI`, opcode `40`. -/
def execRti (s : State) : Outcome := complete (some returnFromTrap) s

/-- R422: `CLI`, opcode `58`. -/
def execCli (s : State) : Outcome := complete (checkPrefixNoWidth .nothing s) (s.setFlags { s.p with i := false })

/-- R423: `RTS`, opcode `60`. -/
def execRts (s : State) : Outcome := complete ((checkPrefixNoWidth .onlyRs s).or (checkReturn s)) (rtsNext s)

/-- R426: `SEI`, opcode `78`. -/
def execSei (s : State) : Outcome := complete (checkPrefixNoWidth .nothing s) (s.setFlags { s.p with i := true })

/-- R434: `CLV`, opcode `B8`. -/
def execClv (s : State) : Outcome := complete (checkPrefixNoWidth .nothing s) (s.setFlags { s.p with v := false })

/-- R436: `CLD`, opcode `D8`. -/
def execCld (s : State) : Outcome := complete (checkPrefixNoWidth .nothing s) (s.setFlags { s.p with d := false })

/-- R438: `NOP`, opcode `EA`. -/
def execNop (s : State) : Outcome := complete (checkPrefixNoWidth .nothing s) s

/-- R441: `SED`, opcode `F8`. -/
def execSed (s : State) : Outcome := complete (checkPrefixNoWidth .nothing s) (s.setFlags { s.p with d := true })

/-- R455: `JSR (E)`, opcode `0F 20`. -/
def execJsrIndE (s : State) : Outcome := jsrOp .rsLe .indE 0 s

/-- R461: `JMP (E)`, opcode `0F 4C`. -/
def execJmpIndE (s : State) : Outcome := jmpOp .umLe .indE 0 s

end Sys2Proof.Machine
end

