-- ==== Sys2Proof/Machine/Lea.lean ====
section
/-! DEFINITION. LEA and PEA (spec/48_ext_lea_pea.md). One definition per instruction, over the shared operations of
this file. -/

namespace Sys2Proof.Machine

/-- The next state of LEA: `E <- zext_W(EA(mode))`; with NF=0, N and Z are free values (R514, decision D36). -/
def leaNext (mode : AddrMode) (op : Word) (s : State) : State :=
  let t := s.setE (s.ea mode op)
  if s.ctx.nf then t
  else (t.setFlags { s.p with n := Config.freeBit s.draws, z := Config.freeBit (s.draws + 1) }).drawn 2

/-- A LEA instruction; RS is not listed, so nothing is checked of its width. `own` is the refusal of its own form. -/
def leaOp (l : Listed) (mode : AddrMode) (op : Word) (own : Option Stop) (s : State) : Outcome :=
  complete ((checkPrefixNoWidth l s).or <| own.or (checkZeroPage mode op s)) (leaNext mode op s)

/-- R490, R491, R492, R493, R498, R500, R501, R506, R507, R508, R509, R510, R511, R519, R520, R521, R522, R523, R524, R525: `PEA` with an operand, by addressing mode. -/
def execPea (_form : PeaForm) (_op : Word) (_s : State) : Outcome := .refused (.notSpecified "PEA")

/-- R494: `LEA (abs),Y`, opcode `0F 21`. -/
def execLeaIndAbsY (op : Word) (s : State) : Outcome := leaOp .nfUmOfAm .indAbsY op none s

/-- R495: `LEA relwide`, opcode `0F 22`. -/
def execLeaRelWide (op : Word) (s : State) : Outcome :=
  leaOp .nfUmOfAm .relWide op (refuseIf (s.ctx.of != .none) .leaRelOffset) s

/-- R496: `LEA (abs,X)`, opcode `0F 31`. -/
def execLeaIndAbsX (op : Word) (s : State) : Outcome := leaOp .nfUmOfAm .indAbsX op none s

/-- R497: `LEA (abs)`, opcode `0F 32`. -/
def execLeaIndAbs (op : Word) (s : State) : Outcome := leaOp .nfUmOfAm .indAbs op none s

/-- R499: `LEA zp`, opcode `0F 46`. -/
def execLeaZp (op : Word) (s : State) : Outcome := leaOp .nfUmOfAm .zp op none s

/-- R502: `LEA zp,X`, opcode `0F 56`. -/
def execLeaZpX (op : Word) (s : State) : Outcome := leaOp .nfUmOfAm .zpX op none s

/-- R503: `LEA [[abs]],Y`, opcode `0F 61`. -/
def execLeaQuadAbsY (op : Word) (s : State) : Outcome := leaOp .nfUmOfAm .quadAbsY op (refuseIf s.ctx.am .quadWithAm) s

/-- R504: `LEA [[abs,X]]`, opcode `0F 71`. -/
def execLeaQuadAbsX (op : Word) (s : State) : Outcome := leaOp .nfUmOfAm .quadAbsX op (refuseIf s.ctx.am .quadWithAm) s

/-- R505: `LEA [[abs]]`, opcode `0F 72`. -/
def execLeaQuadAbs (op : Word) (s : State) : Outcome := leaOp .nfUmOfAm .quadAbs op (refuseIf s.ctx.am .quadWithAm) s

/-- R512: `LEA (zp,X)`, opcode `0F A1`. -/
def execLeaIndZpX (op : Word) (s : State) : Outcome := leaOp .nfUmOfAm .indZpX op none s

/-- R513: `LEA rel`, opcode `0F A2`. -/
def execLeaRelByte (op : Word) (s : State) : Outcome :=
  leaOp .nfUmOfAm .relByte op (refuseIf (s.ctx.of != .none) .leaRelOffset) s

/-- R514: `LEA abs`, opcode `0F AE`. -/
def execLeaAbs (op : Word) (s : State) : Outcome := leaOp .nfUmOfAm .abs op none s

/-- R515: `LEA (zp),Y`, opcode `0F B1`. -/
def execLeaIndZpY (op : Word) (s : State) : Outcome := leaOp .nfUmOfAm .indZpY op none s

/-- R516: `LEA (zp)`, opcode `0F B2`. -/
def execLeaIndZp (op : Word) (s : State) : Outcome := leaOp .nfUmOfAm .indZp op none s

/-- R517: `LEA abs,X`, opcode `0F BE`. -/
def execLeaAbsX (op : Word) (s : State) : Outcome := leaOp .nfUmOfAm .absX op none s

/-- R518: `LEA abs,Y`, opcode `0F BF`. -/
def execLeaAbsY (op : Word) (s : State) : Outcome := leaOp .nfUmOfAm .absY op none s

/-- R526: `LEA [[zp]],Y`, opcode `0F E1`. -/
def execLeaQuadZpY (op : Word) (s : State) : Outcome := leaOp .nfUmOfAm .quadZpY op (refuseIf s.ctx.am .quadWithAm) s

/-- R527: `LEA [[zp,X]]`, opcode `0F F1`. -/
def execLeaQuadZpX (op : Word) (s : State) : Outcome := leaOp .nfUmOfAm .quadZpX op (refuseIf s.ctx.am .quadWithAm) s

/-- R528: `LEA [[zp]]`, opcode `0F F2`. -/
def execLeaQuadZp (op : Word) (s : State) : Outcome := leaOp .nfUmOfAm .quadZp op (refuseIf s.ctx.am .quadWithAm) s

/-- R529: `LEA zp,Y`, opcode `0F F6`. -/
def execLeaZpY (op : Word) (s : State) : Outcome := leaOp .nfUmOfAm .zpY op none s

end Sys2Proof.Machine
end

