-- ==== Sys2Proof/Machine/LoadStore.lean ====
section
/-! DEFINITION. LDA, LDX, LDY, STA, STX, STY and STZ (spec/43_std_load_store.md, and their EXT-page forms in
spec/47_ext_6502_ops.md). One definition per instruction, over the shared operations of
this file. -/

namespace Sys2Proof.Machine

/-- The next state of a load: `LoadReg(r, m)`, N and Z from the `w`-bit value loaded (R165). -/
def loadNext (r : Reg) (mode : AddrMode) (op : Word) (s : State) : State :=
  let m := s.readOp mode op
  (s.setReg r (s.loaded (s.reg r) m)).updateFlags (setNZ s.w m s.p)

/-- A load instruction. -/
def loadOp (r : Reg) (l : Listed) (mode : AddrMode) (op : Word) (s : State) : Outcome :=
  complete (checkData l mode op s) (loadNext r mode op s)

/-- The next state of a store: `MemWrite(env_op, EA, n, v)` (R156). -/
def storeNext (v : Word) (mode : AddrMode) (op : Word) (s : State) : State :=
  s.memWrite (s.envFor s.ctx.um) (s.ea mode op) s.n v

/-- A store instruction. -/
def storeOp (v : Word) (l : Listed) (mode : AddrMode) (op : Word) (s : State) : Outcome :=
  complete (checkData l mode op s) (storeNext v mode op s)

/-- R290: `LDA zp,Y`, opcode `02`. -/
def execLdaZpY (op : Word) (s : State) : Outcome := loadOp .a .nfRsUmOfLeAm .zpY op s

/-- R291: `STA zp,Y`, opcode `22`. -/
def execStaZpY (op : Word) (s : State) : Outcome := storeOp (s.reg .a) .rsUmOfAm .zpY op s

/-- R292: `LDA (abs),Y`, opcode `42`. -/
def execLdaIndAbsY (op : Word) (s : State) : Outcome := loadOp .a .nfRsUmOfLeAm .indAbsY op s

/-- R293: `LDA [[abs]],Y`, opcode `47`. -/
def execLdaQuadAbsY (op : Word) (s : State) : Outcome := loadOp .a .nfRsUmOfLeAm1 .quadAbsY op s

/-- R294: `LDA (abs,X)`, opcode `62`. -/
def execLdaIndAbsX (op : Word) (s : State) : Outcome := loadOp .a .nfRsUmOfLeAm .indAbsX op s

/-- R295: `STZ zp`, opcode `64`. -/
def execStzZp (op : Word) (s : State) : Outcome := storeOp 0 .rsUmOfAm .zp op s

/-- R296: `LDA [[abs,X]]`, opcode `67`. -/
def execLdaQuadAbsX (op : Word) (s : State) : Outcome := loadOp .a .nfRsUmOfLeAm1 .quadAbsX op s

/-- R297: `STZ zp,X`, opcode `74`. -/
def execStzZpX (op : Word) (s : State) : Outcome := storeOp 0 .rsUmOfAm .zpX op s

/-- R298: `STA (zp,X)`, opcode `81`. -/
def execStaIndZpX (op : Word) (s : State) : Outcome := storeOp (s.reg .a) .rsUmOfAm .indZpX op s

/-- R299: `STA [[zp,X]]`, opcode `83`. -/
def execStaQuadZpX (op : Word) (s : State) : Outcome := storeOp (s.reg .a) .rsUmOfAm1 .quadZpX op s

/-- R300: `STY zp`, opcode `84`. -/
def execStyZp (op : Word) (s : State) : Outcome := storeOp (s.reg .y) .rsUmOfAm .zp op s

/-- R301: `STA zp`, opcode `85`. -/
def execStaZp (op : Word) (s : State) : Outcome := storeOp (s.reg .a) .rsUmOfAm .zp op s

/-- R302: `STX zp`, opcode `86`. -/
def execStxZp (op : Word) (s : State) : Outcome := storeOp (s.reg .x) .rsUmOfAm .zp op s

/-- R303: `STY abs`, opcode `8C`. -/
def execStyAbs (op : Word) (s : State) : Outcome := storeOp (s.reg .y) .rsUmOfAm .abs op s

/-- R304: `STA abs`, opcode `8D`. -/
def execStaAbs (op : Word) (s : State) : Outcome := storeOp (s.reg .a) .rsUmOfAm .abs op s

/-- R305: `STX abs`, opcode `8E`. -/
def execStxAbs (op : Word) (s : State) : Outcome := storeOp (s.reg .x) .rsUmOfAm .abs op s

/-- R306: `STA (zp),Y`, opcode `91`. -/
def execStaIndZpY (op : Word) (s : State) : Outcome := storeOp (s.reg .a) .rsUmOfAm .indZpY op s

/-- R307: `STA (zp)`, opcode `92`. -/
def execStaIndZp (op : Word) (s : State) : Outcome := storeOp (s.reg .a) .rsUmOfAm .indZp op s

/-- R308: `STA [[zp]],Y`, opcode `93`. -/
def execStaQuadZpY (op : Word) (s : State) : Outcome := storeOp (s.reg .a) .rsUmOfAm1 .quadZpY op s

/-- R309: `STY zp,X`, opcode `94`. -/
def execStyZpX (op : Word) (s : State) : Outcome := storeOp (s.reg .y) .rsUmOfAm .zpX op s

/-- R310: `STA zp,X`, opcode `95`. -/
def execStaZpX (op : Word) (s : State) : Outcome := storeOp (s.reg .a) .rsUmOfAm .zpX op s

/-- R311: `STX zp,Y`, opcode `96`. -/
def execStxZpY (op : Word) (s : State) : Outcome := storeOp (s.reg .x) .rsUmOfAm .zpY op s

/-- R312: `STA [[zp]]`, opcode `97`. -/
def execStaQuadZp (op : Word) (s : State) : Outcome := storeOp (s.reg .a) .rsUmOfAm1 .quadZp op s

/-- R313: `STA abs,Y`, opcode `99`. -/
def execStaAbsY (op : Word) (s : State) : Outcome := storeOp (s.reg .a) .rsUmOfAm .absY op s

/-- R314: `STZ abs`, opcode `9C`. -/
def execStzAbs (op : Word) (s : State) : Outcome := storeOp 0 .rsUmOfAm .abs op s

/-- R315: `STA abs,X`, opcode `9D`. -/
def execStaAbsX (op : Word) (s : State) : Outcome := storeOp (s.reg .a) .rsUmOfAm .absX op s

/-- R316: `STZ abs,X`, opcode `9E`. -/
def execStzAbsX (op : Word) (s : State) : Outcome := storeOp 0 .rsUmOfAm .absX op s

/-- R317: `LDY #byte`, opcode `A0`. -/
def execLdyImm (op : Word) (s : State) : Outcome := loadOp .y .nfRsLe .imm op s

/-- R318: `LDA (zp,X)`, opcode `A1`. -/
def execLdaIndZpX (op : Word) (s : State) : Outcome := loadOp .a .nfRsUmOfLeAm .indZpX op s

/-- R319: `LDX #byte`, opcode `A2`. -/
def execLdxImm (op : Word) (s : State) : Outcome := loadOp .x .nfRsLe .imm op s

/-- R320: `LDA [[zp,X]]`, opcode `A3`. -/
def execLdaQuadZpX (op : Word) (s : State) : Outcome := loadOp .a .nfRsUmOfLeAm1 .quadZpX op s

/-- R321: `LDY zp`, opcode `A4`. -/
def execLdyZp (op : Word) (s : State) : Outcome := loadOp .y .nfRsUmOfLeAm .zp op s

/-- R322: `LDA zp`, opcode `A5`. -/
def execLdaZp (op : Word) (s : State) : Outcome := loadOp .a .nfRsUmOfLeAm .zp op s

/-- R323: `LDX zp`, opcode `A6`. -/
def execLdxZp (op : Word) (s : State) : Outcome := loadOp .x .nfRsUmOfLeAm .zp op s

/-- R324: `LDA #byte`, opcode `A9`. -/
def execLdaImm (op : Word) (s : State) : Outcome := loadOp .a .nfRsLe .imm op s

/-- R325: `LDY abs`, opcode `AC`. -/
def execLdyAbs (op : Word) (s : State) : Outcome := loadOp .y .nfRsUmOfLeAm .abs op s

/-- R326: `LDA abs`, opcode `AD`. -/
def execLdaAbs (op : Word) (s : State) : Outcome := loadOp .a .nfRsUmOfLeAm .abs op s

/-- R327: `LDX abs`, opcode `AE`. -/
def execLdxAbs (op : Word) (s : State) : Outcome := loadOp .x .nfRsUmOfLeAm .abs op s

/-- R328: `LDA (zp),Y`, opcode `B1`. -/
def execLdaIndZpY (op : Word) (s : State) : Outcome := loadOp .a .nfRsUmOfLeAm .indZpY op s

/-- R329: `LDA (zp)`, opcode `B2`. -/
def execLdaIndZp (op : Word) (s : State) : Outcome := loadOp .a .nfRsUmOfLeAm .indZp op s

/-- R330: `LDA [[zp]],Y`, opcode `B3`. -/
def execLdaQuadZpY (op : Word) (s : State) : Outcome := loadOp .a .nfRsUmOfLeAm1 .quadZpY op s

/-- R331: `LDY zp,X`, opcode `B4`. -/
def execLdyZpX (op : Word) (s : State) : Outcome := loadOp .y .nfRsUmOfLeAm .zpX op s

/-- R332: `LDA zp,X`, opcode `B5`. -/
def execLdaZpX (op : Word) (s : State) : Outcome := loadOp .a .nfRsUmOfLeAm .zpX op s

/-- R333: `LDX zp,Y`, opcode `B6`. -/
def execLdxZpY (op : Word) (s : State) : Outcome := loadOp .x .nfRsUmOfLeAm .zpY op s

/-- R334: `LDA [[zp]]`, opcode `B7`. -/
def execLdaQuadZp (op : Word) (s : State) : Outcome := loadOp .a .nfRsUmOfLeAm1 .quadZp op s

/-- R335: `LDA abs,Y`, opcode `B9`. -/
def execLdaAbsY (op : Word) (s : State) : Outcome := loadOp .a .nfRsUmOfLeAm .absY op s

/-- R336: `LDY abs,X`, opcode `BC`. -/
def execLdyAbsX (op : Word) (s : State) : Outcome := loadOp .y .nfRsUmOfLeAm .absX op s

/-- R337: `LDA abs,X`, opcode `BD`. -/
def execLdaAbsX (op : Word) (s : State) : Outcome := loadOp .a .nfRsUmOfLeAm .absX op s

/-- R338: `LDX abs,Y`, opcode `BE`. -/
def execLdxAbsY (op : Word) (s : State) : Outcome := loadOp .x .nfRsUmOfLeAm .absY op s

/-- R339: `STA (abs),Y`, opcode `C2`. -/
def execStaIndAbsY (op : Word) (s : State) : Outcome := storeOp (s.reg .a) .rsUmOfAm .indAbsY op s

/-- R340: `STA [[abs]],Y`, opcode `C7`. -/
def execStaQuadAbsY (op : Word) (s : State) : Outcome := storeOp (s.reg .a) .rsUmOfAm1 .quadAbsY op s

/-- R341: `STA (abs,X)`, opcode `E2`. -/
def execStaIndAbsX (op : Word) (s : State) : Outcome := storeOp (s.reg .a) .rsUmOfAm .indAbsX op s

/-- R342: `STA [[abs,X]]`, opcode `E7`. -/
def execStaQuadAbsX (op : Word) (s : State) : Outcome := storeOp (s.reg .a) .rsUmOfAm1 .quadAbsX op s

/-- R471: `STY abs,X`, opcode `0F 8E`. -/
def execStyAbsX (op : Word) (s : State) : Outcome := storeOp (s.reg .y) .rsUmOfAm .absX op s

/-- R474: `STZ abs,Y`, opcode `0F 9F`. -/
def execStzAbsY (op : Word) (s : State) : Outcome := storeOp 0 .rsUmOfAm .absY op s

/-- R478: `STX abs,Y`, opcode `0F AF`. -/
def execStxAbsY (op : Word) (s : State) : Outcome := storeOp (s.reg .x) .rsUmOfAm .absY op s

/-- R469: `STY (E)`, opcode `0F 8C`. -/
def execStyIndE (s : State) : Outcome := storeOp (s.reg .y) .rsUm .indE 0 s

/-- R470: `STA (E)`, opcode `0F 8D`. -/
def execStaIndE (s : State) : Outcome := storeOp (s.reg .a) .rsUm .indE 0 s

/-- R472: `STZ (E)`, opcode `0F 9C`. -/
def execStzIndE (s : State) : Outcome := storeOp 0 .rsUm .indE 0 s

/-- R473: `STX (E)`, opcode `0F 9D`. -/
def execStxIndE (s : State) : Outcome := storeOp (s.reg .x) .rsUm .indE 0 s

/-- R475: `LDY (E)`, opcode `0F A0`. -/
def execLdyIndE (s : State) : Outcome := loadOp .y .nfRsUmLe .indE 0 s

/-- R476: `LDA (E)`, opcode `0F A9`. -/
def execLdaIndE (s : State) : Outcome := loadOp .a .nfRsUmLe .indE 0 s

/-- R477: `LDX (E)`, opcode `0F AD`. -/
def execLdxIndE (s : State) : Outcome := loadOp .x .nfRsUmLe .indE 0 s

end Sys2Proof.Machine
end

