-- ==== Sys2Proof/Machine/Logic.lean ====
section
/-! DEFINITION. ORA, AND and EOR (spec/41_std_logic.md R200 to R235, and their `(E)` forms in spec/47_ext_6502_ops.md). One definition per instruction, over the shared operations of
this file. -/

namespace Sys2Proof.Machine

/-- The next state of a logic operation: `A[opw-1:0] <- A[opw-1:0] f b`, N and Z at width `opw` (R200). -/
def logicNext (f : Word → Word → Word) (mode : AddrMode) (op : Word) (s : State) : State :=
  let le := s.leEff .none
  let k := s.opWidth le
  let r := low k (f (s.reg .a) (s.extend le (s.readOp mode op)))
  (s.setReg .a (setLow k (s.reg .a) r)).updateFlags (setNZ k r s.p)

/-- A logic instruction. -/
def logicOp (f : Word → Word → Word) (l : Listed) (mode : AddrMode) (op : Word) (s : State) : Outcome :=
  complete (checkData l mode op s) (logicNext f mode op s)

/-- R200: `ORA (zp,X)`, opcode `01`. -/
def execOraIndZpX (op : Word) (s : State) : Outcome := logicOp (· ||| ·) .nfRsUmOfLeAm .indZpX op s

/-- R201: `ORA [[zp,X]]`, opcode `03`. -/
def execOraQuadZpX (op : Word) (s : State) : Outcome := logicOp (· ||| ·) .nfRsUmOfLeAm1 .quadZpX op s

/-- R202: `ORA zp`, opcode `05`. -/
def execOraZp (op : Word) (s : State) : Outcome := logicOp (· ||| ·) .nfRsUmOfLeAm .zp op s

/-- R203: `ORA #byte`, opcode `09`. -/
def execOraImm (op : Word) (s : State) : Outcome := logicOp (· ||| ·) .nfRsLe .imm op s

/-- R204: `ORA abs`, opcode `0D`. -/
def execOraAbs (op : Word) (s : State) : Outcome := logicOp (· ||| ·) .nfRsUmOfLeAm .abs op s

/-- R205: `ORA (zp),Y`, opcode `11`. -/
def execOraIndZpY (op : Word) (s : State) : Outcome := logicOp (· ||| ·) .nfRsUmOfLeAm .indZpY op s

/-- R206: `ORA (zp)`, opcode `12`. -/
def execOraIndZp (op : Word) (s : State) : Outcome := logicOp (· ||| ·) .nfRsUmOfLeAm .indZp op s

/-- R207: `ORA [[zp]],Y`, opcode `13`. -/
def execOraQuadZpY (op : Word) (s : State) : Outcome := logicOp (· ||| ·) .nfRsUmOfLeAm1 .quadZpY op s

/-- R208: `ORA zp,X`, opcode `15`. -/
def execOraZpX (op : Word) (s : State) : Outcome := logicOp (· ||| ·) .nfRsUmOfLeAm .zpX op s

/-- R209: `ORA [[zp]]`, opcode `17`. -/
def execOraQuadZp (op : Word) (s : State) : Outcome := logicOp (· ||| ·) .nfRsUmOfLeAm1 .quadZp op s

/-- R210: `ORA abs,Y`, opcode `19`. -/
def execOraAbsY (op : Word) (s : State) : Outcome := logicOp (· ||| ·) .nfRsUmOfLeAm .absY op s

/-- R211: `ORA abs,X`, opcode `1D`. -/
def execOraAbsX (op : Word) (s : State) : Outcome := logicOp (· ||| ·) .nfRsUmOfLeAm .absX op s

/-- R212: `AND (zp,X)`, opcode `21`. -/
def execAndIndZpX (op : Word) (s : State) : Outcome := logicOp (· &&& ·) .nfRsUmOfLeAm .indZpX op s

/-- R213: `AND [[zp,X]]`, opcode `23`. -/
def execAndQuadZpX (op : Word) (s : State) : Outcome := logicOp (· &&& ·) .nfRsUmOfLeAm1 .quadZpX op s

/-- R214: `AND zp`, opcode `25`. -/
def execAndZp (op : Word) (s : State) : Outcome := logicOp (· &&& ·) .nfRsUmOfLeAm .zp op s

/-- R215: `AND #byte`, opcode `29`. -/
def execAndImm (op : Word) (s : State) : Outcome := logicOp (· &&& ·) .nfRsLe .imm op s

/-- R216: `AND abs`, opcode `2D`. -/
def execAndAbs (op : Word) (s : State) : Outcome := logicOp (· &&& ·) .nfRsUmOfLeAm .abs op s

/-- R217: `AND (zp),Y`, opcode `31`. -/
def execAndIndZpY (op : Word) (s : State) : Outcome := logicOp (· &&& ·) .nfRsUmOfLeAm .indZpY op s

/-- R218: `AND (zp)`, opcode `32`. -/
def execAndIndZp (op : Word) (s : State) : Outcome := logicOp (· &&& ·) .nfRsUmOfLeAm .indZp op s

/-- R219: `AND [[zp]],Y`, opcode `33`. -/
def execAndQuadZpY (op : Word) (s : State) : Outcome := logicOp (· &&& ·) .nfRsUmOfLeAm1 .quadZpY op s

/-- R220: `AND zp,X`, opcode `35`. -/
def execAndZpX (op : Word) (s : State) : Outcome := logicOp (· &&& ·) .nfRsUmOfLeAm .zpX op s

/-- R221: `AND [[zp]]`, opcode `37`. -/
def execAndQuadZp (op : Word) (s : State) : Outcome := logicOp (· &&& ·) .nfRsUmOfLeAm1 .quadZp op s

/-- R222: `AND abs,Y`, opcode `39`. -/
def execAndAbsY (op : Word) (s : State) : Outcome := logicOp (· &&& ·) .nfRsUmOfLeAm .absY op s

/-- R223: `AND abs,X`, opcode `3D`. -/
def execAndAbsX (op : Word) (s : State) : Outcome := logicOp (· &&& ·) .nfRsUmOfLeAm .absX op s

/-- R224: `EOR (zp,X)`, opcode `41`. -/
def execEorIndZpX (op : Word) (s : State) : Outcome := logicOp (· ^^^ ·) .nfRsUmOfLeAm .indZpX op s

/-- R225: `EOR [[zp,X]]`, opcode `43`. -/
def execEorQuadZpX (op : Word) (s : State) : Outcome := logicOp (· ^^^ ·) .nfRsUmOfLeAm1 .quadZpX op s

/-- R226: `EOR zp`, opcode `45`. -/
def execEorZp (op : Word) (s : State) : Outcome := logicOp (· ^^^ ·) .nfRsUmOfLeAm .zp op s

/-- R227: `EOR #byte`, opcode `49`. -/
def execEorImm (op : Word) (s : State) : Outcome := logicOp (· ^^^ ·) .nfRsLe .imm op s

/-- R228: `EOR abs`, opcode `4D`. -/
def execEorAbs (op : Word) (s : State) : Outcome := logicOp (· ^^^ ·) .nfRsUmOfLeAm .abs op s

/-- R229: `EOR (zp),Y`, opcode `51`. -/
def execEorIndZpY (op : Word) (s : State) : Outcome := logicOp (· ^^^ ·) .nfRsUmOfLeAm .indZpY op s

/-- R230: `EOR (zp)`, opcode `52`. -/
def execEorIndZp (op : Word) (s : State) : Outcome := logicOp (· ^^^ ·) .nfRsUmOfLeAm .indZp op s

/-- R231: `EOR [[zp]],Y`, opcode `53`. -/
def execEorQuadZpY (op : Word) (s : State) : Outcome := logicOp (· ^^^ ·) .nfRsUmOfLeAm1 .quadZpY op s

/-- R232: `EOR zp,X`, opcode `55`. -/
def execEorZpX (op : Word) (s : State) : Outcome := logicOp (· ^^^ ·) .nfRsUmOfLeAm .zpX op s

/-- R233: `EOR [[zp]]`, opcode `57`. -/
def execEorQuadZp (op : Word) (s : State) : Outcome := logicOp (· ^^^ ·) .nfRsUmOfLeAm1 .quadZp op s

/-- R234: `EOR abs,Y`, opcode `59`. -/
def execEorAbsY (op : Word) (s : State) : Outcome := logicOp (· ^^^ ·) .nfRsUmOfLeAm .absY op s

/-- R235: `EOR abs,X`, opcode `5D`. -/
def execEorAbsX (op : Word) (s : State) : Outcome := logicOp (· ^^^ ·) .nfRsUmOfLeAm .absX op s

/-- R450: `ORA (E)`, opcode `0F 09`. -/
def execOraIndE (s : State) : Outcome := logicOp (· ||| ·) .nfRsUmLe .indE 0 s

/-- R456: `AND (E)`, opcode `0F 29`. -/
def execAndIndE (s : State) : Outcome := logicOp (· &&& ·) .nfRsUmLe .indE 0 s

/-- R460: `EOR (E)`, opcode `0F 49`. -/
def execEorIndE (s : State) : Outcome := logicOp (· ^^^ ·) .nfRsUmLe .indE 0 s

end Sys2Proof.Machine
end

