-- ==== Sys2Proof/Machine/NewOps.lean ====
section
/-! DEFINITION. The operations new in the 65002 (spec/49_ext_new_ops.md R540 to R624): the source names them in a table cell and
describes no computation, so each refuses, in every state, before anything else is checked (decision D25, R911). -/

namespace Sys2Proof.Machine

/-- R542: `ADD #byte`, opcode `0F 04`. -/
def execAddImm (_op : Word) (_s : State) : Outcome := .refused (.notSpecified "ADD")

/-- R543, R546, R549, R551, R552: `ASR` with an operand, by addressing mode. -/
def execAsrMem (_form : ShiftForm) (_op : Word) (_s : State) : Outcome := .refused (.notSpecified "ASR")

/-- R547: `BEV rel`, opcode `0F 10`. -/
def execBev (_op : Word) (_s : State) : Outcome := .refused (.notSpecified "BEV")

/-- R554: `ADE #byte`, opcode `0F 24`. -/
def execAdeImm (_op : Word) (_s : State) : Outcome := .refused (.notSpecified "ADE")

/-- R555, R559, R562, R566, R567: `RDL` with an operand, by addressing mode. -/
def execRdlMem (_form : ShiftForm) (_op : Word) (_s : State) : Outcome := .refused (.notSpecified "RDL")

/-- R560: `BOD rel`, opcode `0F 30`. -/
def execBod (_op : Word) (_s : State) : Outcome := .refused (.notSpecified "BOD")

/-- R563: `LDE #byte`, opcode `0F 39`. -/
def execLde (_op : Word) (_s : State) : Outcome := .refused (.notSpecified "LDE")

/-- R569: `ADS #byte`, opcode `0F 44`. -/
def execAdsImm (_op : Word) (_s : State) : Outcome := .refused (.notSpecified "ADS")

/-- R571: `BLTS rel`, opcode `0F 50`. -/
def execBlts (_op : Word) (_s : State) : Outcome := .refused (.notSpecified "BLTS")

/-- R575: `LDB #byte`, opcode `0F 59`. -/
def execLdb (_op : Word) (_s : State) : Outcome := .refused (.notSpecified "LDB")

/-- R577: `ADB #byte`, opcode `0F 64`. -/
def execAdbImm (_op : Word) (_s : State) : Outcome := .refused (.notSpecified "ADB")

/-- R578, R581, R585, R587, R588: `RDR` with an operand, by addressing mode. -/
def execRdrMem (_form : ShiftForm) (_op : Word) (_s : State) : Outcome := .refused (.notSpecified "RDR")

/-- R582: `BGES rel`, opcode `0F 70`. -/
def execBges (_op : Word) (_s : State) : Outcome := .refused (.notSpecified "BGES")

/-- R591: `SUB #byte`, opcode `0F 84`. -/
def execSubImm (_op : Word) (_s : State) : Outcome := .refused (.notSpecified "SUB")

/-- R594: `BLE rel`, opcode `0F 90`. -/
def execBle (_op : Word) (_s : State) : Outcome := .refused (.notSpecified "BLE")

/-- R599: `SBE #byte`, opcode `0F A4`. -/
def execSbeImm (_op : Word) (_s : State) : Outcome := .refused (.notSpecified "SBE")

/-- R601: `BGT rel`, opcode `0F B0`. -/
def execBgt (_op : Word) (_s : State) : Outcome := .refused (.notSpecified "BGT")

/-- R607: `SBS #byte`, opcode `0F C4`. -/
def execSbsImm (_op : Word) (_s : State) : Outcome := .refused (.notSpecified "SBS")

/-- R610: `BLES rel`, opcode `0F D0`. -/
def execBles (_op : Word) (_s : State) : Outcome := .refused (.notSpecified "BLES")

/-- R615: `SBB #byte`, opcode `0F E4`. -/
def execSbbImm (_op : Word) (_s : State) : Outcome := .refused (.notSpecified "SBB")

/-- R619: `BGTS rel`, opcode `0F F0`. -/
def execBgts (_op : Word) (_s : State) : Outcome := .refused (.notSpecified "BGTS")

/-- R540: `ADD (E)`, opcode `0F 00`. -/
def execAddIndE (_s : State) : Outcome := .refused (.notSpecified "ADD")

/-- R541: `MVN`, opcode `0F 03`. -/
def execMvn (_s : State) : Outcome := .refused (.notSpecified "MVN")

/-- R544: `PHE`, opcode `0F 08`. -/
def execPhe (_s : State) : Outcome := .refused (.notSpecified "PHE")

/-- R545: `ASR`, opcode `0F 0A`. -/
def execAsr (_s : State) : Outcome := .refused (.notSpecified "ASR")

/-- R548: `MVP`, opcode `0F 13`. -/
def execMvp (_s : State) : Outcome := .refused (.notSpecified "MVP")

/-- R550: `ASR (E)`, opcode `0F 1D`. -/
def execAsrIndE (_s : State) : Outcome := .refused (.notSpecified "ASR")

/-- R553: `FIL`, opcode `0F 23`. -/
def execFil (_s : State) : Outcome := .refused (.notSpecified "FIL")

/-- R556: `PLE`, opcode `0F 28`. -/
def execPle (_s : State) : Outcome := .refused (.notSpecified "PLE")

/-- R557: `RDL`, opcode `0F 2A`. -/
def execRdl (_s : State) : Outcome := .refused (.notSpecified "RDL")

/-- R558: `SCA (E)`, opcode `0F 2C`. -/
def execSca (_s : State) : Outcome := .refused (.notSpecified "SCA")

/-- R561: `ADE`, opcode `0F 34`. -/
def execAde (_s : State) : Outcome := .refused (.notSpecified "ADE")

/-- R564: `LLA (E)`, opcode `0F 3C`. -/
def execLla (_s : State) : Outcome := .refused (.notSpecified "LLA")

/-- R565: `RDL (E)`, opcode `0F 3D`. -/
def execRdlIndE (_s : State) : Outcome := .refused (.notSpecified "RDL")

/-- R568: `PSH`, opcode `0F 43`. -/
def execPsh (_s : State) : Outcome := .refused (.notSpecified "PSH")

/-- R570: `PHB`, opcode `0F 48`. -/
def execPhb (_s : State) : Outcome := .refused (.notSpecified "PHB")

/-- R572: `PLL`, opcode `0F 53`. -/
def execPll (_s : State) : Outcome := .refused (.notSpecified "PLL")

/-- R573: `ADS`, opcode `0F 54`. -/
def execAds (_s : State) : Outcome := .refused (.notSpecified "ADS")

/-- R574: `PRB`, opcode `0F 58`. -/
def execPrb (_s : State) : Outcome := .refused (.notSpecified "PRB")

/-- R576: `RMB`, opcode `0F 63`. -/
def execRmb (_s : State) : Outcome := .refused (.notSpecified "RMB")

/-- R579: `PLB`, opcode `0F 68`. -/
def execPlb (_s : State) : Outcome := .refused (.notSpecified "PLB")

/-- R580: `RDR`, opcode `0F 6A`. -/
def execRdr (_s : State) : Outcome := .refused (.notSpecified "RDR")

/-- R583: `WMB`, opcode `0F 73`. -/
def execWmb (_s : State) : Outcome := .refused (.notSpecified "WMB")

/-- R584: `ADB`, opcode `0F 74`. -/
def execAdb (_s : State) : Outcome := .refused (.notSpecified "ADB")

/-- R586: `RDR (E)`, opcode `0F 7D`. -/
def execRdrIndE (_s : State) : Outcome := .refused (.notSpecified "RDR")

/-- R589: `SUB (E)`, opcode `0F 80`. -/
def execSubIndE (_s : State) : Outcome := .refused (.notSpecified "SUB")

/-- R590: `HBS`, opcode `0F 83`. -/
def execHbs (_s : State) : Outcome := .refused (.notSpecified "HBS")

/-- R592: `TAE`, opcode `0F 88`. -/
def execTae (_s : State) : Outcome := .refused (.notSpecified "TAE")

/-- R593: `TYS`, opcode `0F 8A`. -/
def execTys (_s : State) : Outcome := .refused (.notSpecified "TYS")

/-- R595: `HBC`, opcode `0F 93`. -/
def execHbc (_s : State) : Outcome := .refused (.notSpecified "HBC")

/-- R596: `TEA`, opcode `0F 98`. -/
def execTea (_s : State) : Outcome := .refused (.notSpecified "TEA")

/-- R597: `SXY`, opcode `0F 9A`. -/
def execSxy (_s : State) : Outcome := .refused (.notSpecified "SXY")

/-- R598: `INV`, opcode `0F A3`. -/
def execInv (_s : State) : Outcome := .refused (.notSpecified "INV")

/-- R600: `SAB`, opcode `0F A8`. -/
def execSab (_s : State) : Outcome := .refused (.notSpecified "SAB")

/-- R602: `BCN`, opcode `0F B3`. -/
def execBcn (_s : State) : Outcome := .refused (.notSpecified "BCN")

/-- R603: `SBE`, opcode `0F B4`. -/
def execSbe (_s : State) : Outcome := .refused (.notSpecified "SBE")

/-- R604: `SEB`, opcode `0F B8`. -/
def execSeb (_s : State) : Outcome := .refused (.notSpecified "SEB")

/-- R605: `SAX`, opcode `0F BA`. -/
def execSax (_s : State) : Outcome := .refused (.notSpecified "SAX")

/-- R606: `EXT`, opcode `0F C3`. -/
def execExtOp (_s : State) : Outcome := .refused (.notSpecified "EXT")

/-- R608: `TPA`, opcode `0F C8`. -/
def execTpa (_s : State) : Outcome := .refused (.notSpecified "TPA")

/-- R609: `TSY`, opcode `0F CA`. -/
def execTsy (_s : State) : Outcome := .refused (.notSpecified "TSY")

/-- R611: `SWP`, opcode `0F D3`. -/
def execSwp (_s : State) : Outcome := .refused (.notSpecified "SWP")

/-- R612: `SBS`, opcode `0F D4`. -/
def execSbs (_s : State) : Outcome := .refused (.notSpecified "SBS")

/-- R613: `SAE`, opcode `0F D8`. -/
def execSae (_s : State) : Outcome := .refused (.notSpecified "SAE")

/-- R614: `SAY`, opcode `0F DA`. -/
def execSay (_s : State) : Outcome := .refused (.notSpecified "SAY")

/-- R616: `TAB`, opcode `0F E8`. -/
def execTab (_s : State) : Outcome := .refused (.notSpecified "TAB")

/-- R617: `TEB`, opcode `0F EA`. -/
def execTeb (_s : State) : Outcome := .refused (.notSpecified "TEB")

/-- R618: `RMB (E)`, opcode `0F EC`. -/
def execRmbIndE (_s : State) : Outcome := .refused (.notSpecified "RMB")

/-- R620: `BSW`, opcode `0F F3`. -/
def execBsw (_s : State) : Outcome := .refused (.notSpecified "BSW")

/-- R621: `SBB`, opcode `0F F4`. -/
def execSbb (_s : State) : Outcome := .refused (.notSpecified "SBB")

/-- R622: `TBA`, opcode `0F F8`. -/
def execTba (_s : State) : Outcome := .refused (.notSpecified "TBA")

/-- R623: `TBE`, opcode `0F FA`. -/
def execTbe (_s : State) : Outcome := .refused (.notSpecified "TBE")

/-- R624: `WMB (E)`, opcode `0F FC`. -/
def execWmbIndE (_s : State) : Outcome := .refused (.notSpecified "WMB")

end Sys2Proof.Machine
end

