-- ==== Sys2Proof/Machine/Pages.lean ====
section
/-! DEFINITION. The units that are no operation: the prefix bytes (spec/30_encoding.md R83), the page bytes, the reserved and the
empty cells of the standard page (spec/46_std_control_and_pages.md R443 to R448). -/

namespace Sys2Proof.Machine

/-- R80, R83: a prefix1 byte changes no state; it sets the fields of the instruction it belongs to. -/
def execPrefix1 (f : Prefix1) (s : State) : Outcome := .next { s with ctx := { s.ctx with prefix1 := some f } }

/-- R81, R83, R443: a prefix2 byte, likewise. -/
def execPrefix2 (f : Prefix2) (s : State) : Outcome := .next { s with ctx := { s.ctx with prefix2 := some f } }

/-- R444: `EXT page`, opcode `0F`. -/
def execExtPage (s : State) : Outcome := .next { s with ctx := { s.ctx with page := .ext } }

/-- R445: `SYS page`, opcode `2F`. -/
def execSysPage (_s : State) : Outcome := .refused (.pageNotDescribed 0x2F#8)

/-- R446: `QUICK page`, opcode `4F`. -/
def execQuickPage (_s : State) : Outcome := .refused (.pageNotDescribed 0x4F#8)

/-- R447: `RESERVED_PREFIX reserved`, opcode `6F`. -/
def execReserved6F (_s : State) : Outcome := .refused (.reservedPrefix 0x6F#8)

/-- R447: `RESERVED_PREFIX reserved`, opcode `8F`. -/
def execReserved8F (_s : State) : Outcome := .refused (.reservedPrefix 0x8F#8)

/-- R447: `RESERVED_PREFIX reserved`, opcode `9F`. -/
def execReserved9F (_s : State) : Outcome := .refused (.reservedPrefix 0x9F#8)

/-- R447: `RESERVED_PREFIX reserved`, opcode `AF`. -/
def execReservedAF (_s : State) : Outcome := .refused (.reservedPrefix 0xAF#8)

/-- R447: `RESERVED_PREFIX reserved`, opcode `BF`. -/
def execReservedBF (_s : State) : Outcome := .refused (.reservedPrefix 0xBF#8)

/-- R447: `RESERVED_PREFIX reserved`, opcode `CF`. -/
def execReservedCF (_s : State) : Outcome := .refused (.reservedPrefix 0xCF#8)

/-- R447: `RESERVED_PREFIX reserved`, opcode `DF`. -/
def execReservedDF (_s : State) : Outcome := .refused (.reservedPrefix 0xDF#8)

/-- R447: `RESERVED_PREFIX reserved`, opcode `EF`. -/
def execReservedEF (_s : State) : Outcome := .refused (.reservedPrefix 0xEF#8)

/-- R447: `RESERVED_PREFIX reserved`, opcode `FF`. -/
def execReservedFF (_s : State) : Outcome := .refused (.reservedPrefix 0xFF#8)

/-- R448: `UNASSIGNED empty`, opcode `1F`. -/
def execUnassigned1F (_s : State) : Outcome := .refused (.emptyCell 0x1F#8)

/-- R448: `UNASSIGNED empty`, opcode `3F`. -/
def execUnassigned3F (_s : State) : Outcome := .refused (.emptyCell 0x3F#8)

/-- R448: `UNASSIGNED empty`, opcode `54`. -/
def execUnassigned54 (_s : State) : Outcome := .refused (.emptyCell 0x54#8)

/-- R448: `UNASSIGNED empty`, opcode `5C`. -/
def execUnassigned5C (_s : State) : Outcome := .refused (.emptyCell 0x5C#8)

/-- R448: `UNASSIGNED empty`, opcode `5F`. -/
def execUnassigned5F (_s : State) : Outcome := .refused (.emptyCell 0x5F#8)

/-- R448: `UNASSIGNED empty`, opcode `7F`. -/
def execUnassigned7F (_s : State) : Outcome := .refused (.emptyCell 0x7F#8)

/-- R448: `UNASSIGNED empty`, opcode `D4`. -/
def execUnassignedD4 (_s : State) : Outcome := .refused (.emptyCell 0xD4#8)

end Sys2Proof.Machine
end

