-- ==== Sys2Proof/Machine/ReadModifyWrite.lean ====
section
/-! DEFINITION. The shifts, rotates, increments, decrements, TSB and TRB (spec/45_std_rmw.md, and their EXT-page forms in
spec/47_ext_6502_ops.md). One definition per instruction, over the shared operations of
this file. -/

namespace Sys2Proof.Machine

/-- The next state of a read-modify-write of memory: one address, `n` bytes read and written back (R370, R371). -/
def rmwNext (f : Rmw) (mode : AddrMode) (op : Word) (s : State) : State :=
  let env := s.envFor s.ctx.um
  let a := s.ea mode op
  let q := f s.w (s.reg .a) s.p (s.memRead env a s.n)
  (s.memWrite env a s.n q.1).updateFlags q.2

/-- A read-modify-write instruction on memory. -/
def rmwOp (f : Rmw) (l : Listed) (mode : AddrMode) (op : Word) (s : State) : Outcome :=
  complete (checkData l mode op s) (rmwNext f mode op s)

/-- The next state of a read-modify-write of the low `w` bits of a register (R372, R404). -/
def rmwRegNext (f : Rmw) (r : Reg) (s : State) : State :=
  let q := f s.w (s.reg .a) s.p (low s.w (s.reg r))
  (s.setReg r (setLow s.w (s.reg r) q.1)).updateFlags q.2

/-- A read-modify-write instruction on a register. -/
def rmwRegOp (f : Rmw) (r : Reg) (l : Listed) (s : State) : Outcome :=
  complete (checkPrefix l s) (rmwRegNext f r s)

/-- R370: `TSB zp`, opcode `04`. -/
def execTsbZp (op : Word) (s : State) : Outcome := rmwOp rmwTsb .nfRsUmOfAm .zp op s

/-- R371: `ASL zp`, opcode `06`. -/
def execAslZp (op : Word) (s : State) : Outcome := rmwOp rmwAsl .nfRsUmOfAm .zp op s

/-- R373: `TSB abs`, opcode `0C`. -/
def execTsbAbs (op : Word) (s : State) : Outcome := rmwOp rmwTsb .nfRsUmOfAm .abs op s

/-- R374: `ASL abs`, opcode `0E`. -/
def execAslAbs (op : Word) (s : State) : Outcome := rmwOp rmwAsl .nfRsUmOfAm .abs op s

/-- R375: `TRB zp`, opcode `14`. -/
def execTrbZp (op : Word) (s : State) : Outcome := rmwOp rmwTrb .nfRsUmOfAm .zp op s

/-- R376: `ASL zp,X`, opcode `16`. -/
def execAslZpX (op : Word) (s : State) : Outcome := rmwOp rmwAsl .nfRsUmOfAm .zpX op s

/-- R378: `TRB abs`, opcode `1C`. -/
def execTrbAbs (op : Word) (s : State) : Outcome := rmwOp rmwTrb .nfRsUmOfAm .abs op s

/-- R379: `ASL abs,X`, opcode `1E`. -/
def execAslAbsX (op : Word) (s : State) : Outcome := rmwOp rmwAsl .nfRsUmOfAm .absX op s

/-- R380: `ROL zp`, opcode `26`. -/
def execRolZp (op : Word) (s : State) : Outcome := rmwOp rmwRol .nfRsUmOfAm .zp op s

/-- R382: `ROL abs`, opcode `2E`. -/
def execRolAbs (op : Word) (s : State) : Outcome := rmwOp rmwRol .nfRsUmOfAm .abs op s

/-- R383: `ROL zp,X`, opcode `36`. -/
def execRolZpX (op : Word) (s : State) : Outcome := rmwOp rmwRol .nfRsUmOfAm .zpX op s

/-- R385: `ROL abs,X`, opcode `3E`. -/
def execRolAbsX (op : Word) (s : State) : Outcome := rmwOp rmwRol .nfRsUmOfAm .absX op s

/-- R386: `LSR zp`, opcode `46`. -/
def execLsrZp (op : Word) (s : State) : Outcome := rmwOp rmwLsr .nfRsUmOfAm .zp op s

/-- R388: `LSR abs`, opcode `4E`. -/
def execLsrAbs (op : Word) (s : State) : Outcome := rmwOp rmwLsr .nfRsUmOfAm .abs op s

/-- R389: `LSR zp,X`, opcode `56`. -/
def execLsrZpX (op : Word) (s : State) : Outcome := rmwOp rmwLsr .nfRsUmOfAm .zpX op s

/-- R390: `LSR abs,X`, opcode `5E`. -/
def execLsrAbsX (op : Word) (s : State) : Outcome := rmwOp rmwLsr .nfRsUmOfAm .absX op s

/-- R391: `ROR zp`, opcode `66`. -/
def execRorZp (op : Word) (s : State) : Outcome := rmwOp rmwRor .nfRsUmOfAm .zp op s

/-- R393: `ROR abs`, opcode `6E`. -/
def execRorAbs (op : Word) (s : State) : Outcome := rmwOp rmwRor .nfRsUmOfAm .abs op s

/-- R394: `ROR zp,X`, opcode `76`. -/
def execRorZpX (op : Word) (s : State) : Outcome := rmwOp rmwRor .nfRsUmOfAm .zpX op s

/-- R395: `ROR abs,X`, opcode `7E`. -/
def execRorAbsX (op : Word) (s : State) : Outcome := rmwOp rmwRor .nfRsUmOfAm .absX op s

/-- R397: `DEC zp`, opcode `C6`. -/
def execDecZp (op : Word) (s : State) : Outcome := rmwOp rmwDec .nfRsUmOfAm .zp op s

/-- R400: `DEC abs`, opcode `CE`. -/
def execDecAbs (op : Word) (s : State) : Outcome := rmwOp rmwDec .nfRsUmOfAm .abs op s

/-- R401: `DEC zp,X`, opcode `D6`. -/
def execDecZpX (op : Word) (s : State) : Outcome := rmwOp rmwDec .nfRsUmOfAm .zpX op s

/-- R402: `DEC abs,X`, opcode `DE`. -/
def execDecAbsX (op : Word) (s : State) : Outcome := rmwOp rmwDec .nfRsUmOfAm .absX op s

/-- R403: `INC zp`, opcode `E6`. -/
def execIncZp (op : Word) (s : State) : Outcome := rmwOp rmwInc .nfRsUmOfAm .zp op s

/-- R405: `INC abs`, opcode `EE`. -/
def execIncAbs (op : Word) (s : State) : Outcome := rmwOp rmwInc .nfRsUmOfAm .abs op s

/-- R406: `INC zp,X`, opcode `F6`. -/
def execIncZpX (op : Word) (s : State) : Outcome := rmwOp rmwInc .nfRsUmOfAm .zpX op s

/-- R407: `INC abs,X`, opcode `FE`. -/
def execIncAbsX (op : Word) (s : State) : Outcome := rmwOp rmwInc .nfRsUmOfAm .absX op s

/-- R453: `ASL abs,Y`, opcode `0F 0F`. -/
def execAslAbsY (op : Word) (s : State) : Outcome := rmwOp rmwAsl .nfRsUmOfAm .absY op s

/-- R458: `ROL abs,Y`, opcode `0F 2F`. -/
def execRolAbsY (op : Word) (s : State) : Outcome := rmwOp rmwRol .nfRsUmOfAm .absY op s

/-- R463: `LSR abs,Y`, opcode `0F 4F`. -/
def execLsrAbsY (op : Word) (s : State) : Outcome := rmwOp rmwLsr .nfRsUmOfAm .absY op s

/-- R467: `ROR abs,Y`, opcode `0F 6F`. -/
def execRorAbsY (op : Word) (s : State) : Outcome := rmwOp rmwRor .nfRsUmOfAm .absY op s

/-- R482: `DEC abs,Y`, opcode `0F CF`. -/
def execDecAbsY (op : Word) (s : State) : Outcome := rmwOp rmwDec .nfRsUmOfAm .absY op s

/-- R487: `INC abs,Y`, opcode `0F EF`. -/
def execIncAbsY (op : Word) (s : State) : Outcome := rmwOp rmwInc .nfRsUmOfAm .absY op s

/-- R372: `ASL A`, opcode `0A`. -/
def execAslAcc (s : State) : Outcome := rmwRegOp rmwAsl .a .nfRs s

/-- R377: `INC A`, opcode `1A`. -/
def execIncAcc (s : State) : Outcome := rmwRegOp rmwInc .a .nfRs s

/-- R381: `ROL A`, opcode `2A`. -/
def execRolAcc (s : State) : Outcome := rmwRegOp rmwRol .a .nfRs s

/-- R384: `DEC A`, opcode `3A`. -/
def execDecAcc (s : State) : Outcome := rmwRegOp rmwDec .a .nfRs s

/-- R387: `LSR A`, opcode `4A`. -/
def execLsrAcc (s : State) : Outcome := rmwRegOp rmwLsr .a .nfRs s

/-- R392: `ROR A`, opcode `6A`. -/
def execRorAcc (s : State) : Outcome := rmwRegOp rmwRor .a .nfRs s

/-- R396: `DEY`, opcode `88`. -/
def execDey (s : State) : Outcome := rmwRegOp rmwDec .y .nfRs s

/-- R398: `INY`, opcode `C8`. -/
def execIny (s : State) : Outcome := rmwRegOp rmwInc .y .nfRs s

/-- R399: `DEX`, opcode `CA`. -/
def execDex (s : State) : Outcome := rmwRegOp rmwDec .x .nfRs s

/-- R404: `INX`, opcode `E8`. -/
def execInx (s : State) : Outcome := rmwRegOp rmwInc .x .nfRs s

/-- R451: `TSB (E)`, opcode `0F 0C`. -/
def execTsbIndE (s : State) : Outcome := rmwOp rmwTsb .nfRsUm .indE 0 s

/-- R452: `ASL (E)`, opcode `0F 0D`. -/
def execAslIndE (s : State) : Outcome := rmwOp rmwAsl .nfRsUm .indE 0 s

/-- R454: `TRB (E)`, opcode `0F 1C`. -/
def execTrbIndE (s : State) : Outcome := rmwOp rmwTrb .nfRsUm .indE 0 s

/-- R457: `ROL (E)`, opcode `0F 2D`. -/
def execRolIndE (s : State) : Outcome := rmwOp rmwRol .nfRsUm .indE 0 s

/-- R462: `LSR (E)`, opcode `0F 4D`. -/
def execLsrIndE (s : State) : Outcome := rmwOp rmwLsr .nfRsUm .indE 0 s

/-- R466: `ROR (E)`, opcode `0F 6D`. -/
def execRorIndE (s : State) : Outcome := rmwOp rmwRor .nfRsUm .indE 0 s

/-- R481: `DEC (E)`, opcode `0F CD`. -/
def execDecIndE (s : State) : Outcome := rmwOp rmwDec .nfRsUm .indE 0 s

/-- R486: `INC (E)`, opcode `0F ED`. -/
def execIncIndE (s : State) : Outcome := rmwOp rmwInc .nfRsUm .indE 0 s

end Sys2Proof.Machine
end

