-- ==== Sys2Proof/Machine/TransferStack.lean ====
section
/-! DEFINITION. The transfers and the stack instructions (spec/44_std_transfer_stack.md). One definition per instruction, over the shared operations of
this file. -/

namespace Sys2Proof.Machine

/-- The next state of a push of a register: `n` bytes on the stack of `SP(um)` (R352). -/
def pushNext (v : Word) (s : State) : State := s.push s.ctx.um s.n v

/-- The next state of PHP: one status byte with B = 1 (R350). -/
def phpNext (s : State) : State := s.push s.ctx.um 1 ((statusByte s.p).setWidth 64)

/-- The next state of a pull of a register: `LoadReg(r, Pull(n))` (R354). -/
def pullNext (r : Reg) (s : State) : State :=
  let m := s.pulled s.ctx.um s.n
  ((s.setReg r (s.loaded (s.reg r) m)).afterPull s.ctx.um s.n).updateFlags (setNZ s.w m s.p)

/-- The next state of PLP: the flags of the byte pulled from the stack of the current mode (R351). -/
def plpNext (s : State) : State := (s.afterPull false 1).setFlags (flagsOfByte (s.pulled false 1))

/-- The next state of a transfer into A, X or Y: `LoadReg(r, m)` with the low `w` bits of the source (R356). -/
def transferNext (src : Word) (r : Reg) (s : State) : State :=
  let m := low s.w src
  (s.setReg r (s.loaded (s.reg r) m)).updateFlags (setNZ s.w m s.p)

/-- A transfer instruction into A, X or Y. -/
def transferOp (src : Word) (r : Reg) (l : Listed) (s : State) : Outcome :=
  complete (checkPrefix l s) (transferNext src r s)

/-- The next state of TXS: `SP(um)` from the low `w` bits of X, no flag written (R358). -/
def txsNext (s : State) : State := s.setSp s.ctx.um (s.loaded (s.sp s.ctx.um) (low s.w (s.reg .x)))

/-- R350: `PHP`, opcode `08`. -/
def execPhp (s : State) : Outcome :=
  complete ((checkPrefixNoWidth .rsUm s).or (refuseIf (s.ctx.rs != .b8) .phpWidth)) (phpNext s)

/-- R351: `PLP`, opcode `28`. -/
def execPlp (s : State) : Outcome := complete (checkPrefixNoWidth .nothing s) (plpNext s)

/-- R352: `PHA`, opcode `48`. -/
def execPha (s : State) : Outcome := complete (checkPrefix .rsUm s) (pushNext (s.reg .a) s)

/-- R353: `PHY`, opcode `5A`. -/
def execPhy (s : State) : Outcome := complete (checkPrefix .rsUm s) (pushNext (s.reg .y) s)

/-- R354: `PLA`, opcode `68`. -/
def execPla (s : State) : Outcome := complete (checkPrefix .nfRsUmLe s) (pullNext .a s)

/-- R355: `PLY`, opcode `7A`. -/
def execPly (s : State) : Outcome := complete (checkPrefix .nfRsUmLe s) (pullNext .y s)

/-- R356: `TXA`, opcode `8A`. -/
def execTxa (s : State) : Outcome := transferOp (s.reg .x) .a .nfRsLe s

/-- R357: `TYA`, opcode `98`. -/
def execTya (s : State) : Outcome := transferOp (s.reg .y) .a .nfRsLe s

/-- R358: `TXS`, opcode `9A`. -/
def execTxs (s : State) : Outcome := complete (checkPrefix .rsUmLe s) (txsNext s)

/-- R359: `TAY`, opcode `A8`. -/
def execTay (s : State) : Outcome := transferOp (s.reg .a) .y .nfRsLe s

/-- R360: `TAX`, opcode `AA`. -/
def execTax (s : State) : Outcome := transferOp (s.reg .a) .x .nfRsLe s

/-- R361: `TSX`, opcode `BA`. -/
def execTsx (s : State) : Outcome := transferOp (s.sp s.ctx.um) .x .nfRsUmLe s

/-- R362: `PHX`, opcode `DA`. -/
def execPhx (s : State) : Outcome := complete (checkPrefix .rsUm s) (pushNext (s.reg .x) s)

/-- R363: `PLX`, opcode `FA`. -/
def execPlx (s : State) : Outcome := complete (checkPrefix .nfRsUmLe s) (pullNext .x s)

end Sys2Proof.Machine
end

