-- ==== Sys2Proof/Machine/Dispatch.lean ====
section
/-! DEFINITION. One arm per constructor of `Instr`, each a direct call of its meaning. -/

namespace Sys2Proof.Machine

/-- The effect of one decoding unit on a state whose PC is `PC_next` (spec/30_encoding.md R85). -/
def exec (i : Instr) (s : State) : Host.Outcome State Fault Refusal :=
  match i with
  | .prefix1 f => Sys2Proof.Machine.execPrefix1 f s
  | .prefix2 f => Sys2Proof.Machine.execPrefix2 f s
  | .oraIndZpX op => Sys2Proof.Machine.execOraIndZpX op s
  | .oraQuadZpX op => Sys2Proof.Machine.execOraQuadZpX op s
  | .oraZp op => Sys2Proof.Machine.execOraZp op s
  | .oraImm op => Sys2Proof.Machine.execOraImm op s
  | .oraAbs op => Sys2Proof.Machine.execOraAbs op s
  | .oraIndZpY op => Sys2Proof.Machine.execOraIndZpY op s
  | .oraIndZp op => Sys2Proof.Machine.execOraIndZp op s
  | .oraQuadZpY op => Sys2Proof.Machine.execOraQuadZpY op s
  | .oraZpX op => Sys2Proof.Machine.execOraZpX op s
  | .oraQuadZp op => Sys2Proof.Machine.execOraQuadZp op s
  | .oraAbsY op => Sys2Proof.Machine.execOraAbsY op s
  | .oraAbsX op => Sys2Proof.Machine.execOraAbsX op s
  | .andIndZpX op => Sys2Proof.Machine.execAndIndZpX op s
  | .andQuadZpX op => Sys2Proof.Machine.execAndQuadZpX op s
  | .andZp op => Sys2Proof.Machine.execAndZp op s
  | .andImm op => Sys2Proof.Machine.execAndImm op s
  | .andAbs op => Sys2Proof.Machine.execAndAbs op s
  | .andIndZpY op => Sys2Proof.Machine.execAndIndZpY op s
  | .andIndZp op => Sys2Proof.Machine.execAndIndZp op s
  | .andQuadZpY op => Sys2Proof.Machine.execAndQuadZpY op s
  | .andZpX op => Sys2Proof.Machine.execAndZpX op s
  | .andQuadZp op => Sys2Proof.Machine.execAndQuadZp op s
  | .andAbsY op => Sys2Proof.Machine.execAndAbsY op s
  | .andAbsX op => Sys2Proof.Machine.execAndAbsX op s
  | .eorIndZpX op => Sys2Proof.Machine.execEorIndZpX op s
  | .eorQuadZpX op => Sys2Proof.Machine.execEorQuadZpX op s
  | .eorZp op => Sys2Proof.Machine.execEorZp op s
  | .eorImm op => Sys2Proof.Machine.execEorImm op s
  | .eorAbs op => Sys2Proof.Machine.execEorAbs op s
  | .eorIndZpY op => Sys2Proof.Machine.execEorIndZpY op s
  | .eorIndZp op => Sys2Proof.Machine.execEorIndZp op s
  | .eorQuadZpY op => Sys2Proof.Machine.execEorQuadZpY op s
  | .eorZpX op => Sys2Proof.Machine.execEorZpX op s
  | .eorQuadZp op => Sys2Proof.Machine.execEorQuadZp op s
  | .eorAbsY op => Sys2Proof.Machine.execEorAbsY op s
  | .eorAbsX op => Sys2Proof.Machine.execEorAbsX op s
  | .bitZp op => Sys2Proof.Machine.execBitZp op s
  | .bitAbs op => Sys2Proof.Machine.execBitAbs op s
  | .bitZpX op => Sys2Proof.Machine.execBitZpX op s
  | .bitAbsX op => Sys2Proof.Machine.execBitAbsX op s
  | .adcIndZpX op => Sys2Proof.Machine.execAdcIndZpX op s
  | .adcQuadZpX op => Sys2Proof.Machine.execAdcQuadZpX op s
  | .adcZp op => Sys2Proof.Machine.execAdcZp op s
  | .adcImm op => Sys2Proof.Machine.execAdcImm op s
  | .adcAbs op => Sys2Proof.Machine.execAdcAbs op s
  | .adcIndZpY op => Sys2Proof.Machine.execAdcIndZpY op s
  | .adcIndZp op => Sys2Proof.Machine.execAdcIndZp op s
  | .adcQuadZpY op => Sys2Proof.Machine.execAdcQuadZpY op s
  | .adcZpX op => Sys2Proof.Machine.execAdcZpX op s
  | .adcQuadZp op => Sys2Proof.Machine.execAdcQuadZp op s
  | .adcAbsY op => Sys2Proof.Machine.execAdcAbsY op s
  | .adcAbsX op => Sys2Proof.Machine.execAdcAbsX op s
  | .bitImm op => Sys2Proof.Machine.execBitImm op s
  | .cpyImm op => Sys2Proof.Machine.execCpyImm op s
  | .cmpIndZpX op => Sys2Proof.Machine.execCmpIndZpX op s
  | .cmpQuadZpX op => Sys2Proof.Machine.execCmpQuadZpX op s
  | .cpyZp op => Sys2Proof.Machine.execCpyZp op s
  | .cmpZp op => Sys2Proof.Machine.execCmpZp op s
  | .cmpImm op => Sys2Proof.Machine.execCmpImm op s
  | .cpyAbs op => Sys2Proof.Machine.execCpyAbs op s
  | .cmpAbs op => Sys2Proof.Machine.execCmpAbs op s
  | .cmpIndZpY op => Sys2Proof.Machine.execCmpIndZpY op s
  | .cmpIndZp op => Sys2Proof.Machine.execCmpIndZp op s
  | .cmpQuadZpY op => Sys2Proof.Machine.execCmpQuadZpY op s
  | .cmpZpX op => Sys2Proof.Machine.execCmpZpX op s
  | .cmpQuadZp op => Sys2Proof.Machine.execCmpQuadZp op s
  | .cmpAbsY op => Sys2Proof.Machine.execCmpAbsY op s
  | .cmpAbsX op => Sys2Proof.Machine.execCmpAbsX op s
  | .cpxImm op => Sys2Proof.Machine.execCpxImm op s
  | .sbcIndZpX op => Sys2Proof.Machine.execSbcIndZpX op s
  | .sbcQuadZpX op => Sys2Proof.Machine.execSbcQuadZpX op s
  | .cpxZp op => Sys2Proof.Machine.execCpxZp op s
  | .sbcZp op => Sys2Proof.Machine.execSbcZp op s
  | .sbcImm op => Sys2Proof.Machine.execSbcImm op s
  | .cpxAbs op => Sys2Proof.Machine.execCpxAbs op s
  | .sbcAbs op => Sys2Proof.Machine.execSbcAbs op s
  | .sbcIndZpY op => Sys2Proof.Machine.execSbcIndZpY op s
  | .sbcIndZp op => Sys2Proof.Machine.execSbcIndZp op s
  | .sbcQuadZpY op => Sys2Proof.Machine.execSbcQuadZpY op s
  | .sbcZpX op => Sys2Proof.Machine.execSbcZpX op s
  | .sbcQuadZp op => Sys2Proof.Machine.execSbcQuadZp op s
  | .sbcAbsY op => Sys2Proof.Machine.execSbcAbsY op s
  | .sbcAbsX op => Sys2Proof.Machine.execSbcAbsX op s
  | .ldaZpY op => Sys2Proof.Machine.execLdaZpY op s
  | .staZpY op => Sys2Proof.Machine.execStaZpY op s
  | .ldaIndAbsY op => Sys2Proof.Machine.execLdaIndAbsY op s
  | .ldaQuadAbsY op => Sys2Proof.Machine.execLdaQuadAbsY op s
  | .ldaIndAbsX op => Sys2Proof.Machine.execLdaIndAbsX op s
  | .stzZp op => Sys2Proof.Machine.execStzZp op s
  | .ldaQuadAbsX op => Sys2Proof.Machine.execLdaQuadAbsX op s
  | .stzZpX op => Sys2Proof.Machine.execStzZpX op s
  | .staIndZpX op => Sys2Proof.Machine.execStaIndZpX op s
  | .staQuadZpX op => Sys2Proof.Machine.execStaQuadZpX op s
  | .styZp op => Sys2Proof.Machine.execStyZp op s
  | .staZp op => Sys2Proof.Machine.execStaZp op s
  | .stxZp op => Sys2Proof.Machine.execStxZp op s
  | .styAbs op => Sys2Proof.Machine.execStyAbs op s
  | .staAbs op => Sys2Proof.Machine.execStaAbs op s
  | .stxAbs op => Sys2Proof.Machine.execStxAbs op s
  | .staIndZpY op => Sys2Proof.Machine.execStaIndZpY op s
  | .staIndZp op => Sys2Proof.Machine.execStaIndZp op s
  | .staQuadZpY op => Sys2Proof.Machine.execStaQuadZpY op s
  | .styZpX op => Sys2Proof.Machine.execStyZpX op s
  | .staZpX op => Sys2Proof.Machine.execStaZpX op s
  | .stxZpY op => Sys2Proof.Machine.execStxZpY op s
  | .staQuadZp op => Sys2Proof.Machine.execStaQuadZp op s
  | .staAbsY op => Sys2Proof.Machine.execStaAbsY op s
  | .stzAbs op => Sys2Proof.Machine.execStzAbs op s
  | .staAbsX op => Sys2Proof.Machine.execStaAbsX op s
  | .stzAbsX op => Sys2Proof.Machine.execStzAbsX op s
  | .ldyImm op => Sys2Proof.Machine.execLdyImm op s
  | .ldaIndZpX op => Sys2Proof.Machine.execLdaIndZpX op s
  | .ldxImm op => Sys2Proof.Machine.execLdxImm op s
  | .ldaQuadZpX op => Sys2Proof.Machine.execLdaQuadZpX op s
  | .ldyZp op => Sys2Proof.Machine.execLdyZp op s
  | .ldaZp op => Sys2Proof.Machine.execLdaZp op s
  | .ldxZp op => Sys2Proof.Machine.execLdxZp op s
  | .ldaImm op => Sys2Proof.Machine.execLdaImm op s
  | .ldyAbs op => Sys2Proof.Machine.execLdyAbs op s
  | .ldaAbs op => Sys2Proof.Machine.execLdaAbs op s
  | .ldxAbs op => Sys2Proof.Machine.execLdxAbs op s
  | .ldaIndZpY op => Sys2Proof.Machine.execLdaIndZpY op s
  | .ldaIndZp op => Sys2Proof.Machine.execLdaIndZp op s
  | .ldaQuadZpY op => Sys2Proof.Machine.execLdaQuadZpY op s
  | .ldyZpX op => Sys2Proof.Machine.execLdyZpX op s
  | .ldaZpX op => Sys2Proof.Machine.execLdaZpX op s
  | .ldxZpY op => Sys2Proof.Machine.execLdxZpY op s
  | .ldaQuadZp op => Sys2Proof.Machine.execLdaQuadZp op s
  | .ldaAbsY op => Sys2Proof.Machine.execLdaAbsY op s
  | .ldyAbsX op => Sys2Proof.Machine.execLdyAbsX op s
  | .ldaAbsX op => Sys2Proof.Machine.execLdaAbsX op s
  | .ldxAbsY op => Sys2Proof.Machine.execLdxAbsY op s
  | .staIndAbsY op => Sys2Proof.Machine.execStaIndAbsY op s
  | .staQuadAbsY op => Sys2Proof.Machine.execStaQuadAbsY op s
  | .staIndAbsX op => Sys2Proof.Machine.execStaIndAbsX op s
  | .staQuadAbsX op => Sys2Proof.Machine.execStaQuadAbsX op s
  | .tsbZp op => Sys2Proof.Machine.execTsbZp op s
  | .aslZp op => Sys2Proof.Machine.execAslZp op s
  | .tsbAbs op => Sys2Proof.Machine.execTsbAbs op s
  | .aslAbs op => Sys2Proof.Machine.execAslAbs op s
  | .trbZp op => Sys2Proof.Machine.execTrbZp op s
  | .aslZpX op => Sys2Proof.Machine.execAslZpX op s
  | .trbAbs op => Sys2Proof.Machine.execTrbAbs op s
  | .aslAbsX op => Sys2Proof.Machine.execAslAbsX op s
  | .rolZp op => Sys2Proof.Machine.execRolZp op s
  | .rolAbs op => Sys2Proof.Machine.execRolAbs op s
  | .rolZpX op => Sys2Proof.Machine.execRolZpX op s
  | .rolAbsX op => Sys2Proof.Machine.execRolAbsX op s
  | .lsrZp op => Sys2Proof.Machine.execLsrZp op s
  | .lsrAbs op => Sys2Proof.Machine.execLsrAbs op s
  | .lsrZpX op => Sys2Proof.Machine.execLsrZpX op s
  | .lsrAbsX op => Sys2Proof.Machine.execLsrAbsX op s
  | .rorZp op => Sys2Proof.Machine.execRorZp op s
  | .rorAbs op => Sys2Proof.Machine.execRorAbs op s
  | .rorZpX op => Sys2Proof.Machine.execRorZpX op s
  | .rorAbsX op => Sys2Proof.Machine.execRorAbsX op s
  | .decZp op => Sys2Proof.Machine.execDecZp op s
  | .decAbs op => Sys2Proof.Machine.execDecAbs op s
  | .decZpX op => Sys2Proof.Machine.execDecZpX op s
  | .decAbsX op => Sys2Proof.Machine.execDecAbsX op s
  | .incZp op => Sys2Proof.Machine.execIncZp op s
  | .incAbs op => Sys2Proof.Machine.execIncAbs op s
  | .incZpX op => Sys2Proof.Machine.execIncZpX op s
  | .incAbsX op => Sys2Proof.Machine.execIncAbsX op s
  | .brk op => Sys2Proof.Machine.execBrk op s
  | .jmpQuadAbs op => Sys2Proof.Machine.execJmpQuadAbs op s
  | .bpl op => Sys2Proof.Machine.execBpl op s
  | .jsrAbs op => Sys2Proof.Machine.execJsrAbs op s
  | .jmpQuadAbsX op => Sys2Proof.Machine.execJmpQuadAbsX op s
  | .bmi op => Sys2Proof.Machine.execBmi op s
  | .bsrRelWide op => Sys2Proof.Machine.execBsrRelWide op s
  | .jmpAbs op => Sys2Proof.Machine.execJmpAbs op s
  | .bvc op => Sys2Proof.Machine.execBvc op s
  | .jmpIndAbs op => Sys2Proof.Machine.execJmpIndAbs op s
  | .bvs op => Sys2Proof.Machine.execBvs op s
  | .jmpIndAbsX op => Sys2Proof.Machine.execJmpIndAbsX op s
  | .bra op => Sys2Proof.Machine.execBra op s
  | .bsrRelByte op => Sys2Proof.Machine.execBsrRelByte op s
  | .jsrQuadAbs op => Sys2Proof.Machine.execJsrQuadAbs op s
  | .bcc op => Sys2Proof.Machine.execBcc op s
  | .jsrQuadAbsX op => Sys2Proof.Machine.execJsrQuadAbsX op s
  | .bcs op => Sys2Proof.Machine.execBcs op s
  | .bne op => Sys2Proof.Machine.execBne op s
  | .jsrIndAbs op => Sys2Proof.Machine.execJsrIndAbs op s
  | .beq op => Sys2Proof.Machine.execBeq op s
  | .trp op => Sys2Proof.Machine.execTrp op s
  | .jsrIndAbsX op => Sys2Proof.Machine.execJsrIndAbsX op s
  | .aslAbsY op => Sys2Proof.Machine.execAslAbsY op s
  | .rolAbsY op => Sys2Proof.Machine.execRolAbsY op s
  | .lsrAbsY op => Sys2Proof.Machine.execLsrAbsY op s
  | .jmpLong op => Sys2Proof.Machine.execJmpLong op s
  | .rorAbsY op => Sys2Proof.Machine.execRorAbsY op s
  | .styAbsX op => Sys2Proof.Machine.execStyAbsX op s
  | .stzAbsY op => Sys2Proof.Machine.execStzAbsY op s
  | .stxAbsY op => Sys2Proof.Machine.execStxAbsY op s
  | .decAbsY op => Sys2Proof.Machine.execDecAbsY op s
  | .jsrLong op => Sys2Proof.Machine.execJsrLong op s
  | .incAbsY op => Sys2Proof.Machine.execIncAbsY op s
  | .pea form op => Sys2Proof.Machine.execPea form op s
  | .leaIndAbsY op => Sys2Proof.Machine.execLeaIndAbsY op s
  | .leaRelWide op => Sys2Proof.Machine.execLeaRelWide op s
  | .leaIndAbsX op => Sys2Proof.Machine.execLeaIndAbsX op s
  | .leaIndAbs op => Sys2Proof.Machine.execLeaIndAbs op s
  | .leaZp op => Sys2Proof.Machine.execLeaZp op s
  | .leaZpX op => Sys2Proof.Machine.execLeaZpX op s
  | .leaQuadAbsY op => Sys2Proof.Machine.execLeaQuadAbsY op s
  | .leaQuadAbsX op => Sys2Proof.Machine.execLeaQuadAbsX op s
  | .leaQuadAbs op => Sys2Proof.Machine.execLeaQuadAbs op s
  | .leaIndZpX op => Sys2Proof.Machine.execLeaIndZpX op s
  | .leaRelByte op => Sys2Proof.Machine.execLeaRelByte op s
  | .leaAbs op => Sys2Proof.Machine.execLeaAbs op s
  | .leaIndZpY op => Sys2Proof.Machine.execLeaIndZpY op s
  | .leaIndZp op => Sys2Proof.Machine.execLeaIndZp op s
  | .leaAbsX op => Sys2Proof.Machine.execLeaAbsX op s
  | .leaAbsY op => Sys2Proof.Machine.execLeaAbsY op s
  | .leaQuadZpY op => Sys2Proof.Machine.execLeaQuadZpY op s
  | .leaQuadZpX op => Sys2Proof.Machine.execLeaQuadZpX op s
  | .leaQuadZp op => Sys2Proof.Machine.execLeaQuadZp op s
  | .leaZpY op => Sys2Proof.Machine.execLeaZpY op s
  | .addImm op => Sys2Proof.Machine.execAddImm op s
  | .asrMem form op => Sys2Proof.Machine.execAsrMem form op s
  | .bev op => Sys2Proof.Machine.execBev op s
  | .adeImm op => Sys2Proof.Machine.execAdeImm op s
  | .rdlMem form op => Sys2Proof.Machine.execRdlMem form op s
  | .bod op => Sys2Proof.Machine.execBod op s
  | .lde op => Sys2Proof.Machine.execLde op s
  | .adsImm op => Sys2Proof.Machine.execAdsImm op s
  | .blts op => Sys2Proof.Machine.execBlts op s
  | .ldb op => Sys2Proof.Machine.execLdb op s
  | .adbImm op => Sys2Proof.Machine.execAdbImm op s
  | .rdrMem form op => Sys2Proof.Machine.execRdrMem form op s
  | .bges op => Sys2Proof.Machine.execBges op s
  | .subImm op => Sys2Proof.Machine.execSubImm op s
  | .ble op => Sys2Proof.Machine.execBle op s
  | .sbeImm op => Sys2Proof.Machine.execSbeImm op s
  | .bgt op => Sys2Proof.Machine.execBgt op s
  | .sbsImm op => Sys2Proof.Machine.execSbsImm op s
  | .bles op => Sys2Proof.Machine.execBles op s
  | .sbbImm op => Sys2Proof.Machine.execSbbImm op s
  | .bgts op => Sys2Proof.Machine.execBgts op s
  | .php => Sys2Proof.Machine.execPhp s
  | .plp => Sys2Proof.Machine.execPlp s
  | .pha => Sys2Proof.Machine.execPha s
  | .phy => Sys2Proof.Machine.execPhy s
  | .pla => Sys2Proof.Machine.execPla s
  | .ply => Sys2Proof.Machine.execPly s
  | .txa => Sys2Proof.Machine.execTxa s
  | .tya => Sys2Proof.Machine.execTya s
  | .txs => Sys2Proof.Machine.execTxs s
  | .tay => Sys2Proof.Machine.execTay s
  | .tax => Sys2Proof.Machine.execTax s
  | .tsx => Sys2Proof.Machine.execTsx s
  | .phx => Sys2Proof.Machine.execPhx s
  | .plx => Sys2Proof.Machine.execPlx s
  | .aslAcc => Sys2Proof.Machine.execAslAcc s
  | .incAcc => Sys2Proof.Machine.execIncAcc s
  | .rolAcc => Sys2Proof.Machine.execRolAcc s
  | .decAcc => Sys2Proof.Machine.execDecAcc s
  | .lsrAcc => Sys2Proof.Machine.execLsrAcc s
  | .rorAcc => Sys2Proof.Machine.execRorAcc s
  | .dey => Sys2Proof.Machine.execDey s
  | .iny => Sys2Proof.Machine.execIny s
  | .dex => Sys2Proof.Machine.execDex s
  | .inx => Sys2Proof.Machine.execInx s
  | .clc => Sys2Proof.Machine.execClc s
  | .sec => Sys2Proof.Machine.execSec s
  | .rti => Sys2Proof.Machine.execRti s
  | .cli => Sys2Proof.Machine.execCli s
  | .rts => Sys2Proof.Machine.execRts s
  | .sei => Sys2Proof.Machine.execSei s
  | .clv => Sys2Proof.Machine.execClv s
  | .cld => Sys2Proof.Machine.execCld s
  | .nop => Sys2Proof.Machine.execNop s
  | .sed => Sys2Proof.Machine.execSed s
  | .extPage => Sys2Proof.Machine.execExtPage s
  | .sysPage => Sys2Proof.Machine.execSysPage s
  | .quickPage => Sys2Proof.Machine.execQuickPage s
  | .reserved6F => Sys2Proof.Machine.execReserved6F s
  | .reserved8F => Sys2Proof.Machine.execReserved8F s
  | .reserved9F => Sys2Proof.Machine.execReserved9F s
  | .reservedAF => Sys2Proof.Machine.execReservedAF s
  | .reservedBF => Sys2Proof.Machine.execReservedBF s
  | .reservedCF => Sys2Proof.Machine.execReservedCF s
  | .reservedDF => Sys2Proof.Machine.execReservedDF s
  | .reservedEF => Sys2Proof.Machine.execReservedEF s
  | .reservedFF => Sys2Proof.Machine.execReservedFF s
  | .unassigned1F => Sys2Proof.Machine.execUnassigned1F s
  | .unassigned3F => Sys2Proof.Machine.execUnassigned3F s
  | .unassigned54 => Sys2Proof.Machine.execUnassigned54 s
  | .unassigned5C => Sys2Proof.Machine.execUnassigned5C s
  | .unassigned5F => Sys2Proof.Machine.execUnassigned5F s
  | .unassigned7F => Sys2Proof.Machine.execUnassigned7F s
  | .unassignedD4 => Sys2Proof.Machine.execUnassignedD4 s
  | .oraIndE => Sys2Proof.Machine.execOraIndE s
  | .tsbIndE => Sys2Proof.Machine.execTsbIndE s
  | .aslIndE => Sys2Proof.Machine.execAslIndE s
  | .trbIndE => Sys2Proof.Machine.execTrbIndE s
  | .jsrIndE => Sys2Proof.Machine.execJsrIndE s
  | .andIndE => Sys2Proof.Machine.execAndIndE s
  | .rolIndE => Sys2Proof.Machine.execRolIndE s
  | .bitAcc => Sys2Proof.Machine.execBitAcc s
  | .eorIndE => Sys2Proof.Machine.execEorIndE s
  | .jmpIndE => Sys2Proof.Machine.execJmpIndE s
  | .lsrIndE => Sys2Proof.Machine.execLsrIndE s
  | .adcIndE => Sys2Proof.Machine.execAdcIndE s
  | .rorIndE => Sys2Proof.Machine.execRorIndE s
  | .bitIndE => Sys2Proof.Machine.execBitIndE s
  | .styIndE => Sys2Proof.Machine.execStyIndE s
  | .staIndE => Sys2Proof.Machine.execStaIndE s
  | .stzIndE => Sys2Proof.Machine.execStzIndE s
  | .stxIndE => Sys2Proof.Machine.execStxIndE s
  | .ldyIndE => Sys2Proof.Machine.execLdyIndE s
  | .ldaIndE => Sys2Proof.Machine.execLdaIndE s
  | .ldxIndE => Sys2Proof.Machine.execLdxIndE s
  | .cpyIndE => Sys2Proof.Machine.execCpyIndE s
  | .cmpIndE => Sys2Proof.Machine.execCmpIndE s
  | .decIndE => Sys2Proof.Machine.execDecIndE s
  | .cpxIndE => Sys2Proof.Machine.execCpxIndE s
  | .sbcIndE => Sys2Proof.Machine.execSbcIndE s
  | .incIndE => Sys2Proof.Machine.execIncIndE s
  | .addIndE => Sys2Proof.Machine.execAddIndE s
  | .mvn => Sys2Proof.Machine.execMvn s
  | .phe => Sys2Proof.Machine.execPhe s
  | .asr => Sys2Proof.Machine.execAsr s
  | .mvp => Sys2Proof.Machine.execMvp s
  | .asrIndE => Sys2Proof.Machine.execAsrIndE s
  | .fil => Sys2Proof.Machine.execFil s
  | .ple => Sys2Proof.Machine.execPle s
  | .rdl => Sys2Proof.Machine.execRdl s
  | .sca => Sys2Proof.Machine.execSca s
  | .ade => Sys2Proof.Machine.execAde s
  | .lla => Sys2Proof.Machine.execLla s
  | .rdlIndE => Sys2Proof.Machine.execRdlIndE s
  | .psh => Sys2Proof.Machine.execPsh s
  | .phb => Sys2Proof.Machine.execPhb s
  | .pll => Sys2Proof.Machine.execPll s
  | .ads => Sys2Proof.Machine.execAds s
  | .prb => Sys2Proof.Machine.execPrb s
  | .rmb => Sys2Proof.Machine.execRmb s
  | .plb => Sys2Proof.Machine.execPlb s
  | .rdr => Sys2Proof.Machine.execRdr s
  | .wmb => Sys2Proof.Machine.execWmb s
  | .adb => Sys2Proof.Machine.execAdb s
  | .rdrIndE => Sys2Proof.Machine.execRdrIndE s
  | .subIndE => Sys2Proof.Machine.execSubIndE s
  | .hbs => Sys2Proof.Machine.execHbs s
  | .tae => Sys2Proof.Machine.execTae s
  | .tys => Sys2Proof.Machine.execTys s
  | .hbc => Sys2Proof.Machine.execHbc s
  | .tea => Sys2Proof.Machine.execTea s
  | .sxy => Sys2Proof.Machine.execSxy s
  | .inv => Sys2Proof.Machine.execInv s
  | .sab => Sys2Proof.Machine.execSab s
  | .bcn => Sys2Proof.Machine.execBcn s
  | .sbe => Sys2Proof.Machine.execSbe s
  | .seb => Sys2Proof.Machine.execSeb s
  | .sax => Sys2Proof.Machine.execSax s
  | .extOp => Sys2Proof.Machine.execExtOp s
  | .tpa => Sys2Proof.Machine.execTpa s
  | .tsy => Sys2Proof.Machine.execTsy s
  | .swp => Sys2Proof.Machine.execSwp s
  | .sbs => Sys2Proof.Machine.execSbs s
  | .sae => Sys2Proof.Machine.execSae s
  | .say => Sys2Proof.Machine.execSay s
  | .tab => Sys2Proof.Machine.execTab s
  | .teb => Sys2Proof.Machine.execTeb s
  | .rmbIndE => Sys2Proof.Machine.execRmbIndE s
  | .bsw => Sys2Proof.Machine.execBsw s
  | .sbb => Sys2Proof.Machine.execSbb s
  | .tba => Sys2Proof.Machine.execTba s
  | .tbe => Sys2Proof.Machine.execTbe s
  | .wmbIndE => Sys2Proof.Machine.execWmbIndE s

end Sys2Proof.Machine
end

