-- ==== Sys2Proof/Machine/Run.lean ====
section
/-! DEFINITION. Running the units of one instruction (spec/30_encoding.md R84, R85): prefix bytes and the page byte are
taken in one after another, then the opcode's meaning is applied. -/

namespace Sys2Proof.Machine

/-- Fetches and runs units until an opcode has run; at most as many units as the first argument says. -/
def runUnits : Nat → State → Outcome
  | 0, _ => .refused .tooManyUnits
  | fuel + 1, s =>
    match s.fetchUnit with
    | .error e => .refused (.undecodable e)
    | .ok (i, k) =>
      match exec i (s.fetched k) with
      | .next t => if (s.ctx.extend i).isSome then runUnits fuel t else .next t.endInstr
      | .fault f => .fault f
      | .refused r => .refused r

/-- One instruction: every prefix field starts cleared (R85), and at most four units follow (prefix1, prefix2, page byte,
opcode: R84). -/
def runInstruction (s : State) : Outcome := runUnits 4 s.beginInstr

/-- The state with the instruction word of `nbits` bits stored at PC in the current environment, lowest byte first; the
longest instruction takes twelve bytes (R84, R92), and those the word does not reach are zero. -/
def State.placeWord (s : State) (nbits w : Nat) : State := s.storeBytes s.cur s.pc (bytesOfNat 12 (w % 2 ^ nbits))

end Sys2Proof.Machine
end

