-- ==== Sys2Proof/Machine/Step.lean ====
section
/-! DEFINITION. One step of the machine is one whole instruction, its prefix bytes included (spec/30_encoding.md R84,
R85). -/

namespace Sys2Proof.Machine

/-- The instruction at PC is fetched from the current environment and run. -/
def step (s : State) : Host.Outcome State Fault Refusal := runInstruction s

/-- The state with an instruction word where `step` fetches next. -/
def State.withFetchWord (s : State) (nbits w : Nat) : State := s.placeWord nbits w

end Sys2Proof.Machine
end

