-- ==== Sys2Proof/WellFormed.lean ====
section
/-! DEFINITION. Which instructions a byte sequence can stand for, in a context of the units before them: the checks of
spec/30_encoding.md R84, R88, R90, R92 and R98 on a term of `Instr`. -/

namespace Sys2Proof

/-- The operand fills no more than its bytes (R92). -/
def Cell.operandFits (c : Context) (k : Cell) : Bool :=
  decide (k.operand.toNat < 2 ^ (8 * k.mode.operandBytes c.am c.rs))

/-- A standard-page opcode of prefix1 pattern is one of the duplicate opcodes and needs a prefix1 with AM=1 (R88). -/
def Cell.reachable (c : Context) (k : Cell) : Bool :=
  match k.page with
  | .std => !isPrefix1 k.opcode || c.am
  | .ext => true

/-- Some EXT-page opcode carries the cell under the parameter `EXTMAP` (R96). -/
def Cell.assigned (m : ExtMap) (k : Cell) : Bool :=
  match k.page with
  | .std => true
  | .ext => m.slot (m.opcodeFor k.opcode) == k.opcode

/-- The unit can stand after the units of the context: a prefix1 only first, a prefix2 only before the opcode and only once,
the page byte only once and after the prefix bytes (R84, R90), a cell on the page reached, with an operand that fits. -/
def WellFormed (m : ExtMap) (c : Context) (i : Instr) : Bool :=
  match i.cell with
  | some k => (k.page == c.page) && k.reachable c && k.assigned m && k.operandFits c
  | none =>
    match i with
    | .prefix1 _ => c.prefix1.isNone && c.prefix2.isNone && (c.page == .std)
    | .prefix2 _ => c.prefix2.isNone && (c.page == .std)
    | _ => c.page == .std

end Sys2Proof
end

