-- ==== Sys2Proof/Safety.lean ====
section
/-! DEFINITION. The terms the statements are made in: when an instruction is accepted (spec/40_prefixes_and_addressing.md
R162, R135, R136, R172), what a store leaves behind (spec/20_memory.md R52), the exact arithmetic of the instructions on
natural numbers, the state between instructions, and the forms of each mnemonic. None of it is used by the machine. -/

namespace Sys2Proof.Machine

/-! ### When an instruction is accepted -/

/-- Every prefix field that is set is listed, and AM=1 is set where the cell demands it (R162, first lines). -/
structure FieldsListed (l : Listed) (s : State) : Prop where
  of : s.ctx.of ≠ .none → l.of = true
  rs : s.ctx.rs ≠ .b8 → l.rs = true
  am : s.ctx.am = true → l.am ≠ .no
  amRequired : l.am = .required → s.ctx.am = true
  um : s.ctx.um = true → l.um = true
  nf : s.ctx.nf = true → l.nf = true
  le : ∀ p, s.ctx.prefix2 = some p → p.le ≠ .none → l.le = true

/-- UM=1 only in hypervisor mode of a processor that has it (R159). -/
def UmAllowed (s : State) : Prop := s.ctx.um = true → s.opts.hyp = true ∧ s.mode = .hypervisor

/-- OF=01 only where `PCREL_BASE` is set (R137). -/
def PcrelKnown (s : State) : Prop := s.ctx.of = .pc → s.opts.pcrelBase ≠ none

/-- `CheckPrefix` lets a cell pass where RS does not size data (R151, R162). -/
structure Accepted (l : Listed) (s : State) : Prop where
  listed : FieldsListed l s
  um : UmAllowed s
  pcrel : PcrelKnown s

/-- `CheckPrefix` lets a cell pass where RS sizes data (R151, R162). -/
structure AcceptedData (l : Listed) (s : State) : Prop where
  accepted : Accepted l s
  width : s.w ≤ s.W

/-- With AM=0 and OF=00, what a zero-page mode reaches in page zero does not pass `$FF` (R135, R136). -/
def InsidePageZero (mode : AddrMode) (op : Word) (s : State) : Prop :=
  isZeroPage mode = true → s.ctx.am = false → s.ctx.of = .none →
    op.toNat + (s.indexBefore mode).toNat + (pointerSize mode false - 1) ≤ 0xFF

/-- An instruction with a data operand executes. -/
structure DataReady (l : Listed) (mode : AddrMode) (op : Word) (s : State) : Prop where
  accepted : AcceptedData l s
  pageZero : InsidePageZero mode op s

/-- A jump executes: AM=0 on a `long` operand (D27), and R172 gives its target. -/
structure JumpReady (l : Listed) (mode : AddrMode) (s : State) : Prop where
  accepted : Accepted l s
  long : mode = .long → s.ctx.am = false
  upper : targetWidth mode s < s.AW → s.pc.toNat % 2 ^ s.AW < 2 ^ targetWidth mode s
  le : ∀ p, s.ctx.prefix2 = some p → p.le = .none ∨ p.le = .zero
  um : s.ctx.um = false

/-- LEA executes: OF=00 on its relative forms (D42), AM=0 on its quad forms (D43), and no page-zero wrap. -/
structure LeaReady (l : Listed) (mode : AddrMode) (op : Word) (s : State) : Prop where
  accepted : Accepted l s
  rel : mode = .relByte ∨ mode = .relWide → s.ctx.of = .none
  quad : pointerSize mode false = 8 → s.ctx.am = false
  pageZero : InsidePageZero mode op s

/-- A return address is `AW` bits wide (R171). -/
def ReturnReady (s : State) : Prop := 8 * s.retBytes = s.AW

/-! ### What a store leaves behind -/

/-- Memory after `MemWrite(env, a, n, v)` (R52): every location that none of the `n` addresses names is as before, and each
of the `n` bytes is in place unless a later one of them shares its location. -/
structure Stored (s : State) (env : Mode) (a : Word) (n : Nat) (v : Word) (m : Memory) : Prop where
  others : ∀ loc, (∀ i < n, s.locate env (a + BitVec.ofNat 64 i) ≠ loc) → m.read loc = s.mem.read loc
  bytes : ∀ i < n, (∀ j < n, i < j → s.locate env (a + BitVec.ofNat 64 j) ≠ s.locate env (a + BitVec.ofNat 64 i)) →
    m.read (s.locate env (a + BitVec.ofNat 64 i)) = (v >>> (8 * i)).setWidth 8

/-- The `n` addresses from `a` on name `n` different locations. -/
def Apart (s : State) (env : Mode) (a : Word) (n : Nat) : Prop :=
  ∀ i < n, ∀ j < n, s.locate env (a + BitVec.ofNat 64 i) = s.locate env (a + BitVec.ofNat 64 j) → i = j

/-! ### Registers as the statements name them -/

/-- The field of a register. -/
def State.cellOf (s : State) : Reg → Word
  | .a => s.a
  | .x => s.x
  | .y => s.y

/-- The state with nothing but one register changed. -/
def State.withCell (s : State) (r : Reg) (v : Word) : State :=
  match r with
  | .a => { s with a := v }
  | .x => { s with x := v }
  | .y => { s with y := v }

/-- The state with nothing but the stack pointer `SP(um)` changed (R23). -/
def State.withSp (s : State) (um : Bool) (v : Word) : State :=
  if um = true ∨ s.opts.hyp = false ∨ s.mode = .user then { s with spu := v } else { s with sph := v }

/-- The field of `SP(um)` (R23). -/
def State.spCell (s : State) (um : Bool) : Word :=
  if um = true ∨ s.opts.hyp = false ∨ s.mode = .user then s.spu else s.sph

/-- `v[k-1:0]` as a number. -/
def value (k : Nat) (v : Word) : Nat := v.toNat % 2 ^ k

/-- Bits `k` and up of a register's new cell are those it had: `r[k-1:0] <- …` touches no more (R8, R150). -/
def KeepsAbove (s : State) (k : Nat) (old new : Word) : Prop :=
  ∀ j, k ≤ j → new.getLsbD j = (decide (j < s.W) && old.getLsbD j)

/-- The stack pointer after a push of `k` bytes: modulo `2^W` (R170). -/
def State.spAfterPush (s : State) (um : Bool) (k : Nat) : Word :=
  BitVec.ofNat 64 ((value s.W (s.spCell um) + 2 ^ s.W - k) % 2 ^ s.W)

/-- The stack pointer after a pull of `k` bytes: modulo `2^W` (R170). -/
def State.spAfterPull (s : State) (um : Bool) (k : Nat) : Word :=
  BitVec.ofNat 64 ((value s.W (s.spCell um) + k) % 2 ^ s.W)

/-- `v[k-1:0]` as a signed number. -/
def signed (k : Nat) (v : Word) : Int := if v.getLsbD (k - 1) then (value k v : Int) - 2 ^ k else value k v

/-- An address, reduced modulo `2^AW` (R4). -/
def State.address (s : State) (n : Nat) : Word := BitVec.ofNat 64 (n % 2 ^ s.AW)

/-! ### Flags -/

/-- The flags after an instruction that lists NF, given what it leaves with NF=0 (R160). -/
def State.flagsUnlessNf (s : State) (p : Flags) : Flags := if s.ctx.nf = true then s.p else p

/-- `SetNZ(v, k)` for a `k`-bit number (R164). -/
def Flags.withNZ (p : Flags) (k v : Nat) : Flags := { p with n := v.testBit (k - 1), z := decide (v = 0) }

/-! ### The arithmetic of the instructions, on numbers below `2^k` -/

/-- A read-modify-write instruction: width, A, the old carry and the old value; the new value and the carry it leaves, if it
writes one. -/
abbrev RmwSpec := Nat → Nat → Bool → Nat → Nat × Option Bool

/-- Twice the value; the carry is the bit that falls out (R371). -/
def specAsl : RmwSpec := fun k _ _ m => (2 * m % 2 ^ k, some (decide (2 ^ k ≤ 2 * m)))
/-- Half the value; the carry is the bit that falls out (R386). -/
def specLsr : RmwSpec := fun _ _ _ m => (m / 2, some (decide (m % 2 = 1)))
/-- Twice the value with the old carry below (R380). -/
def specRol : RmwSpec := fun k _ c m => ((2 * m + c.toNat) % 2 ^ k, some (decide (2 ^ k ≤ 2 * m)))
/-- Half the value with the old carry on top (R391). -/
def specRor : RmwSpec := fun k _ c m => (c.toNat * 2 ^ (k - 1) + m / 2, some (decide (m % 2 = 1)))
/-- One more, modulo `2^k` (R403). -/
def specInc : RmwSpec := fun k _ _ m => ((m + 1) % 2 ^ k, none)
/-- One less, modulo `2^k` (R397). -/
def specDec : RmwSpec := fun k _ _ m => ((m + 2 ^ k - 1) % 2 ^ k, none)

/-- The flags of a shift, rotate, increment or decrement: N and Z of the result, C if it writes one, the rest unchanged. -/
def Flags.afterRmw (p : Flags) (k : Nat) (q : Nat × Option Bool) : Flags :=
  { p.withNZ k q.1 with c := q.2.getD p.c }

/-! ### What an instruction does, by shape -/

/-- A register is loaded with the `w`-bit value `m` and nothing but it, N and Z changes (R165). -/
def LoadsInto (i : Instr) (r : Reg) (m : Word) (s : State) : Prop :=
  ∃ v, exec i s = .next (({ s with p := s.flagsUnlessNf (s.p.withNZ s.w (value s.w m)) } : State).withCell r v)
    ∧ if s.leEff .zero = .none then value s.w v = value s.w m ∧ KeepsAbove s s.w (s.cellOf r) v
      else v = s.extend (s.leEff .zero) m

/-- The low `w` bits of a register get the value the arithmetic gives, and nothing but they and the flags changes. -/
def ModifiesRegister (i : Instr) (r : Reg) (f : RmwSpec) (s : State) : Prop :=
  let q := f s.w (value s.w s.a) s.p.c (value s.w (s.cellOf r))
  ∃ v, exec i s = .next (({ s with p := s.flagsUnlessNf (s.p.afterRmw s.w q) } : State).withCell r v)
    ∧ value s.w v = q.1 ∧ KeepsAbove s s.w (s.cellOf r) v

/-- The `n` bytes at the effective address get the value the arithmetic gives, and nothing but they and the flags changes. -/
def ModifiesMemory (i : Instr) (mode : AddrMode) (op : Word) (f : RmwSpec) (s : State) : Prop :=
  let env := s.envFor s.ctx.um
  let a := s.ea mode op
  let q := f s.w (value s.w s.a) s.p.c (s.memRead env a s.n).toNat
  ∃ m, exec i s = .next { s with mem := m, p := s.flagsUnlessNf (s.p.afterRmw s.w q) }
    ∧ Stored s env a s.n (BitVec.ofNat 64 q.1) m

/-- `k` bytes of `v` are pushed on the stack of `SP(um)` and nothing else changes (R170). -/
def Pushes (i : Instr) (um : Bool) (k : Nat) (v : Word) (s : State) : Prop :=
  ∃ m, exec i s = .next (({ s with mem := m } : State).withSp um (s.spAfterPush um k))
    ∧ Stored s (s.envFor um) (s.pushAddr um k) k v m

/-- The return address is pushed and PC goes to the effective address (R171, R172). -/
def Calls (i : Instr) (mode : AddrMode) (op : Word) (s : State) : Prop :=
  ∃ m, exec i s
      = .next { ({ s with mem := m } : State).withSp false (s.spAfterPush false s.retBytes) with pc := s.ea mode op }
    ∧ Stored s s.cur (s.pushAddr false s.retBytes) s.retBytes (s.address (value s.AW s.pc + 2 ^ s.AW - 1)) m

/-! ### The state between instructions -/

/-- What holds between instructions, whatever the program: memory in its canonical form, no register wider than its width
(R3, R4), no trace of a decoding (R33). -/
structure Settled (s : State) : Prop where
  mem : s.mem.wf = true
  a : s.a.toNat < 2 ^ s.W
  x : s.x.toNat < 2 ^ s.W
  y : s.y.toNat < 2 ^ s.W
  sph : s.sph.toNat < 2 ^ s.W
  spu : s.spu.toNat < 2 ^ s.W
  br : s.br.toNat < 2 ^ s.W
  e : s.e.toNat < 2 ^ s.W
  pc : s.pc.toNat < 2 ^ s.AW
  ctx : s.ctx = .start
  start : s.start = 0
  opcodeAt : s.opcodeAt = 0

/-- A location that no user-mode address names. -/
def State.hiddenFromUser (s : State) (loc : Nat) : Prop := ∀ a, s.locate .user a ≠ loc

/-- Two states that differ in what user mode cannot name and nowhere else: SPH and the hidden locations. -/
def SameForUser (s t : State) : Prop :=
  ∃ h m, t = { s with sph := h, mem := m } ∧ ∀ loc, ¬ s.hiddenFromUser loc → m.read loc = s.mem.read loc

/-- Two outcomes are of one kind: the same fault, the same refusal, or next states that stand in the relation. -/
def Outcome.Agree (r : State → State → Prop) : Outcome → Outcome → Prop
  | .next s, .next t => r s t
  | .fault f, .fault g => f = g
  | .refused a, .refused b => a = b
  | _, _ => False

/-! ### Forms -/

/-- One form of an instruction: the instruction with a given operand, its addressing mode and the prefix fields its cell
lists. A form without an operand ignores it. -/
structure Form where
  make : Word → Instr
  mode : AddrMode
  listed : Listed

/-- The forms of ORA. -/
def oraForms : List Form := [
  ⟨.oraIndZpX, .indZpX, .nfRsUmOfLeAm⟩, ⟨.oraQuadZpX, .quadZpX, .nfRsUmOfLeAm1⟩, ⟨.oraZp, .zp, .nfRsUmOfLeAm⟩,
  ⟨.oraImm, .imm, .nfRsLe⟩, ⟨.oraAbs, .abs, .nfRsUmOfLeAm⟩, ⟨.oraIndZpY, .indZpY, .nfRsUmOfLeAm⟩,
  ⟨.oraIndZp, .indZp, .nfRsUmOfLeAm⟩, ⟨.oraQuadZpY, .quadZpY, .nfRsUmOfLeAm1⟩, ⟨.oraZpX, .zpX, .nfRsUmOfLeAm⟩,
  ⟨.oraQuadZp, .quadZp, .nfRsUmOfLeAm1⟩, ⟨.oraAbsY, .absY, .nfRsUmOfLeAm⟩, ⟨.oraAbsX, .absX, .nfRsUmOfLeAm⟩,
  ⟨fun _ => .oraIndE, .indE, .nfRsUmLe⟩]

/-- The forms of AND. -/
def andForms : List Form := [
  ⟨.andIndZpX, .indZpX, .nfRsUmOfLeAm⟩, ⟨.andQuadZpX, .quadZpX, .nfRsUmOfLeAm1⟩, ⟨.andZp, .zp, .nfRsUmOfLeAm⟩,
  ⟨.andImm, .imm, .nfRsLe⟩, ⟨.andAbs, .abs, .nfRsUmOfLeAm⟩, ⟨.andIndZpY, .indZpY, .nfRsUmOfLeAm⟩,
  ⟨.andIndZp, .indZp, .nfRsUmOfLeAm⟩, ⟨.andQuadZpY, .quadZpY, .nfRsUmOfLeAm1⟩, ⟨.andZpX, .zpX, .nfRsUmOfLeAm⟩,
  ⟨.andQuadZp, .quadZp, .nfRsUmOfLeAm1⟩, ⟨.andAbsY, .absY, .nfRsUmOfLeAm⟩, ⟨.andAbsX, .absX, .nfRsUmOfLeAm⟩,
  ⟨fun _ => .andIndE, .indE, .nfRsUmLe⟩]

/-- The forms of EOR. -/
def eorForms : List Form := [
  ⟨.eorIndZpX, .indZpX, .nfRsUmOfLeAm⟩, ⟨.eorQuadZpX, .quadZpX, .nfRsUmOfLeAm1⟩, ⟨.eorZp, .zp, .nfRsUmOfLeAm⟩,
  ⟨.eorImm, .imm, .nfRsLe⟩, ⟨.eorAbs, .abs, .nfRsUmOfLeAm⟩, ⟨.eorIndZpY, .indZpY, .nfRsUmOfLeAm⟩,
  ⟨.eorIndZp, .indZp, .nfRsUmOfLeAm⟩, ⟨.eorQuadZpY, .quadZpY, .nfRsUmOfLeAm1⟩, ⟨.eorZpX, .zpX, .nfRsUmOfLeAm⟩,
  ⟨.eorQuadZp, .quadZp, .nfRsUmOfLeAm1⟩, ⟨.eorAbsY, .absY, .nfRsUmOfLeAm⟩, ⟨.eorAbsX, .absX, .nfRsUmOfLeAm⟩,
  ⟨fun _ => .eorIndE, .indE, .nfRsUmLe⟩]

/-- The forms of ADC. -/
def adcForms : List Form := [
  ⟨.adcIndZpX, .indZpX, .nfRsUmOfLeAm⟩, ⟨.adcQuadZpX, .quadZpX, .nfRsUmOfLeAm1⟩, ⟨.adcZp, .zp, .nfRsUmOfLeAm⟩,
  ⟨.adcImm, .imm, .nfRsLe⟩, ⟨.adcAbs, .abs, .nfRsUmOfLeAm⟩, ⟨.adcIndZpY, .indZpY, .nfRsUmOfLeAm⟩,
  ⟨.adcIndZp, .indZp, .nfRsUmOfLeAm⟩, ⟨.adcQuadZpY, .quadZpY, .nfRsUmOfLeAm1⟩, ⟨.adcZpX, .zpX, .nfRsUmOfLeAm⟩,
  ⟨.adcQuadZp, .quadZp, .nfRsUmOfLeAm1⟩, ⟨.adcAbsY, .absY, .nfRsUmOfLeAm⟩, ⟨.adcAbsX, .absX, .nfRsUmOfLeAm⟩,
  ⟨fun _ => .adcIndE, .indE, .nfRsUmLe⟩]

/-- The forms of SBC. -/
def sbcForms : List Form := [
  ⟨.sbcIndZpX, .indZpX, .nfRsUmOfLeAm⟩, ⟨.sbcQuadZpX, .quadZpX, .nfRsUmOfLeAm1⟩, ⟨.sbcZp, .zp, .nfRsUmOfLeAm⟩,
  ⟨.sbcImm, .imm, .nfRsLe⟩, ⟨.sbcAbs, .abs, .nfRsUmOfLeAm⟩, ⟨.sbcIndZpY, .indZpY, .nfRsUmOfLeAm⟩,
  ⟨.sbcIndZp, .indZp, .nfRsUmOfLeAm⟩, ⟨.sbcQuadZpY, .quadZpY, .nfRsUmOfLeAm1⟩, ⟨.sbcZpX, .zpX, .nfRsUmOfLeAm⟩,
  ⟨.sbcQuadZp, .quadZp, .nfRsUmOfLeAm1⟩, ⟨.sbcAbsY, .absY, .nfRsUmOfLeAm⟩, ⟨.sbcAbsX, .absX, .nfRsUmOfLeAm⟩,
  ⟨fun _ => .sbcIndE, .indE, .nfRsUmLe⟩]

/-- The forms of CMP. -/
def cmpForms : List Form := [
  ⟨.cmpIndZpX, .indZpX, .rsUmOfLeAm⟩, ⟨.cmpQuadZpX, .quadZpX, .rsUmOfLeAm1⟩, ⟨.cmpZp, .zp, .rsUmOfLeAm⟩,
  ⟨.cmpImm, .imm, .rsLe⟩, ⟨.cmpAbs, .abs, .rsUmOfLeAm⟩, ⟨.cmpIndZpY, .indZpY, .rsUmOfLeAm⟩,
  ⟨.cmpIndZp, .indZp, .rsUmOfLeAm⟩, ⟨.cmpQuadZpY, .quadZpY, .rsUmOfLeAm1⟩, ⟨.cmpZpX, .zpX, .rsUmOfLeAm⟩,
  ⟨.cmpQuadZp, .quadZp, .rsUmOfLeAm1⟩, ⟨.cmpAbsY, .absY, .rsUmOfLeAm⟩, ⟨.cmpAbsX, .absX, .rsUmOfLeAm⟩,
  ⟨fun _ => .cmpIndE, .indE, .rsUmLe⟩]

/-- The forms of CPX. -/
def cpxForms : List Form := [
  ⟨.cpxImm, .imm, .rsLe⟩, ⟨.cpxZp, .zp, .rsUmOfLeAm⟩, ⟨.cpxAbs, .abs, .rsUmOfLeAm⟩,
  ⟨fun _ => .cpxIndE, .indE, .rsUmLe⟩]

/-- The forms of CPY. -/
def cpyForms : List Form := [
  ⟨.cpyImm, .imm, .rsLe⟩, ⟨.cpyZp, .zp, .rsUmOfLeAm⟩, ⟨.cpyAbs, .abs, .rsUmOfLeAm⟩,
  ⟨fun _ => .cpyIndE, .indE, .rsUmLe⟩]

/-- The forms of BIT on memory. -/
def bitForms : List Form := [
  ⟨.bitZp, .zp, .nfRsUmOfLeAm⟩, ⟨.bitAbs, .abs, .nfRsUmOfLeAm⟩, ⟨.bitZpX, .zpX, .nfRsUmOfLeAm⟩,
  ⟨.bitAbsX, .absX, .nfRsUmOfLeAm⟩, ⟨fun _ => .bitIndE, .indE, .nfRsUmLe⟩]

/-- The forms of LDA. -/
def ldaForms : List Form := [
  ⟨.ldaZpY, .zpY, .nfRsUmOfLeAm⟩, ⟨.ldaIndAbsY, .indAbsY, .nfRsUmOfLeAm⟩,
  ⟨.ldaQuadAbsY, .quadAbsY, .nfRsUmOfLeAm1⟩, ⟨.ldaIndAbsX, .indAbsX, .nfRsUmOfLeAm⟩,
  ⟨.ldaQuadAbsX, .quadAbsX, .nfRsUmOfLeAm1⟩, ⟨.ldaIndZpX, .indZpX, .nfRsUmOfLeAm⟩,
  ⟨.ldaQuadZpX, .quadZpX, .nfRsUmOfLeAm1⟩, ⟨.ldaZp, .zp, .nfRsUmOfLeAm⟩, ⟨.ldaImm, .imm, .nfRsLe⟩,
  ⟨.ldaAbs, .abs, .nfRsUmOfLeAm⟩, ⟨.ldaIndZpY, .indZpY, .nfRsUmOfLeAm⟩, ⟨.ldaIndZp, .indZp, .nfRsUmOfLeAm⟩,
  ⟨.ldaQuadZpY, .quadZpY, .nfRsUmOfLeAm1⟩, ⟨.ldaZpX, .zpX, .nfRsUmOfLeAm⟩, ⟨.ldaQuadZp, .quadZp, .nfRsUmOfLeAm1⟩,
  ⟨.ldaAbsY, .absY, .nfRsUmOfLeAm⟩, ⟨.ldaAbsX, .absX, .nfRsUmOfLeAm⟩, ⟨fun _ => .ldaIndE, .indE, .nfRsUmLe⟩]

/-- The forms of LDX. -/
def ldxForms : List Form := [
  ⟨.ldxImm, .imm, .nfRsLe⟩, ⟨.ldxZp, .zp, .nfRsUmOfLeAm⟩, ⟨.ldxAbs, .abs, .nfRsUmOfLeAm⟩,
  ⟨.ldxZpY, .zpY, .nfRsUmOfLeAm⟩, ⟨.ldxAbsY, .absY, .nfRsUmOfLeAm⟩, ⟨fun _ => .ldxIndE, .indE, .nfRsUmLe⟩]

/-- The forms of LDY. -/
def ldyForms : List Form := [
  ⟨.ldyImm, .imm, .nfRsLe⟩, ⟨.ldyZp, .zp, .nfRsUmOfLeAm⟩, ⟨.ldyAbs, .abs, .nfRsUmOfLeAm⟩,
  ⟨.ldyZpX, .zpX, .nfRsUmOfLeAm⟩, ⟨.ldyAbsX, .absX, .nfRsUmOfLeAm⟩, ⟨fun _ => .ldyIndE, .indE, .nfRsUmLe⟩]

/-- The forms of STA. -/
def staForms : List Form := [
  ⟨.staZpY, .zpY, .rsUmOfAm⟩, ⟨.staIndZpX, .indZpX, .rsUmOfAm⟩, ⟨.staQuadZpX, .quadZpX, .rsUmOfAm1⟩,
  ⟨.staZp, .zp, .rsUmOfAm⟩, ⟨.staAbs, .abs, .rsUmOfAm⟩, ⟨.staIndZpY, .indZpY, .rsUmOfAm⟩,
  ⟨.staIndZp, .indZp, .rsUmOfAm⟩, ⟨.staQuadZpY, .quadZpY, .rsUmOfAm1⟩, ⟨.staZpX, .zpX, .rsUmOfAm⟩,
  ⟨.staQuadZp, .quadZp, .rsUmOfAm1⟩, ⟨.staAbsY, .absY, .rsUmOfAm⟩, ⟨.staAbsX, .absX, .rsUmOfAm⟩,
  ⟨.staIndAbsY, .indAbsY, .rsUmOfAm⟩, ⟨.staQuadAbsY, .quadAbsY, .rsUmOfAm1⟩, ⟨.staIndAbsX, .indAbsX, .rsUmOfAm⟩,
  ⟨.staQuadAbsX, .quadAbsX, .rsUmOfAm1⟩, ⟨fun _ => .staIndE, .indE, .rsUm⟩]

/-- The forms of STX. -/
def stxForms : List Form := [
  ⟨.stxZp, .zp, .rsUmOfAm⟩, ⟨.stxAbs, .abs, .rsUmOfAm⟩, ⟨.stxZpY, .zpY, .rsUmOfAm⟩, ⟨.stxAbsY, .absY, .rsUmOfAm⟩,
  ⟨fun _ => .stxIndE, .indE, .rsUm⟩]

/-- The forms of STY. -/
def styForms : List Form := [
  ⟨.styZp, .zp, .rsUmOfAm⟩, ⟨.styAbs, .abs, .rsUmOfAm⟩, ⟨.styZpX, .zpX, .rsUmOfAm⟩, ⟨.styAbsX, .absX, .rsUmOfAm⟩,
  ⟨fun _ => .styIndE, .indE, .rsUm⟩]

/-- The forms of STZ. -/
def stzForms : List Form := [
  ⟨.stzZp, .zp, .rsUmOfAm⟩, ⟨.stzZpX, .zpX, .rsUmOfAm⟩, ⟨.stzAbs, .abs, .rsUmOfAm⟩, ⟨.stzAbsX, .absX, .rsUmOfAm⟩,
  ⟨.stzAbsY, .absY, .rsUmOfAm⟩, ⟨fun _ => .stzIndE, .indE, .rsUm⟩]

/-- The memory forms of ASL. -/
def aslForms : List Form := [
  ⟨.aslZp, .zp, .nfRsUmOfAm⟩, ⟨.aslAbs, .abs, .nfRsUmOfAm⟩, ⟨.aslZpX, .zpX, .nfRsUmOfAm⟩,
  ⟨.aslAbsX, .absX, .nfRsUmOfAm⟩, ⟨.aslAbsY, .absY, .nfRsUmOfAm⟩, ⟨fun _ => .aslIndE, .indE, .nfRsUm⟩]

/-- The memory forms of LSR. -/
def lsrForms : List Form := [
  ⟨.lsrZp, .zp, .nfRsUmOfAm⟩, ⟨.lsrAbs, .abs, .nfRsUmOfAm⟩, ⟨.lsrZpX, .zpX, .nfRsUmOfAm⟩,
  ⟨.lsrAbsX, .absX, .nfRsUmOfAm⟩, ⟨.lsrAbsY, .absY, .nfRsUmOfAm⟩, ⟨fun _ => .lsrIndE, .indE, .nfRsUm⟩]

/-- The memory forms of ROL. -/
def rolForms : List Form := [
  ⟨.rolZp, .zp, .nfRsUmOfAm⟩, ⟨.rolAbs, .abs, .nfRsUmOfAm⟩, ⟨.rolZpX, .zpX, .nfRsUmOfAm⟩,
  ⟨.rolAbsX, .absX, .nfRsUmOfAm⟩, ⟨.rolAbsY, .absY, .nfRsUmOfAm⟩, ⟨fun _ => .rolIndE, .indE, .nfRsUm⟩]

/-- The memory forms of ROR. -/
def rorForms : List Form := [
  ⟨.rorZp, .zp, .nfRsUmOfAm⟩, ⟨.rorAbs, .abs, .nfRsUmOfAm⟩, ⟨.rorZpX, .zpX, .nfRsUmOfAm⟩,
  ⟨.rorAbsX, .absX, .nfRsUmOfAm⟩, ⟨.rorAbsY, .absY, .nfRsUmOfAm⟩, ⟨fun _ => .rorIndE, .indE, .nfRsUm⟩]

/-- The memory forms of INC. -/
def incForms : List Form := [
  ⟨.incZp, .zp, .nfRsUmOfAm⟩, ⟨.incAbs, .abs, .nfRsUmOfAm⟩, ⟨.incZpX, .zpX, .nfRsUmOfAm⟩,
  ⟨.incAbsX, .absX, .nfRsUmOfAm⟩, ⟨.incAbsY, .absY, .nfRsUmOfAm⟩, ⟨fun _ => .incIndE, .indE, .nfRsUm⟩]

/-- The memory forms of DEC. -/
def decForms : List Form := [
  ⟨.decZp, .zp, .nfRsUmOfAm⟩, ⟨.decAbs, .abs, .nfRsUmOfAm⟩, ⟨.decZpX, .zpX, .nfRsUmOfAm⟩,
  ⟨.decAbsX, .absX, .nfRsUmOfAm⟩, ⟨.decAbsY, .absY, .nfRsUmOfAm⟩, ⟨fun _ => .decIndE, .indE, .nfRsUm⟩]

/-- The memory forms of TSB. -/
def tsbForms : List Form := [
  ⟨.tsbZp, .zp, .nfRsUmOfAm⟩, ⟨.tsbAbs, .abs, .nfRsUmOfAm⟩, ⟨fun _ => .tsbIndE, .indE, .nfRsUm⟩]

/-- The memory forms of TRB. -/
def trbForms : List Form := [
  ⟨.trbZp, .zp, .nfRsUmOfAm⟩, ⟨.trbAbs, .abs, .nfRsUmOfAm⟩, ⟨fun _ => .trbIndE, .indE, .nfRsUm⟩]

/-- The forms of JMP. -/
def jmpForms : List Form := [
  ⟨.jmpQuadAbs, .quadAbs, .umOfLeAm1⟩, ⟨.jmpQuadAbsX, .quadAbsX, .umOfLeAm1⟩, ⟨.jmpAbs, .abs, .umOfLeAm⟩,
  ⟨.jmpIndAbs, .indAbs, .umOfLeAm⟩, ⟨.jmpIndAbsX, .indAbsX, .umOfLeAm⟩, ⟨.jmpLong, .long, .umOfLeAm⟩,
  ⟨fun _ => .jmpIndE, .indE, .umLe⟩]

/-- The forms of JSR. -/
def jsrForms : List Form := [
  ⟨.jsrAbs, .abs, .rsOfLeAm⟩, ⟨.jsrQuadAbs, .quadAbs, .rsOfLeAm1⟩, ⟨.jsrQuadAbsX, .quadAbsX, .rsOfLeAm1⟩,
  ⟨.jsrIndAbs, .indAbs, .rsOfLeAm⟩, ⟨.jsrIndAbsX, .indAbsX, .rsOfLeAm⟩, ⟨.jsrLong, .long, .rsOfLeAm⟩,
  ⟨fun _ => .jsrIndE, .indE, .rsLe⟩]

/-- The forms of BSR. -/
def bsrForms : List Form := [
  ⟨.bsrRelWide, .relWide, .rsAm⟩, ⟨.bsrRelByte, .relByte, .rsAm⟩]

/-- The forms of LEA. -/
def leaForms : List Form := [
  ⟨.leaIndAbsY, .indAbsY, .nfUmOfAm⟩, ⟨.leaRelWide, .relWide, .nfUmOfAm⟩, ⟨.leaIndAbsX, .indAbsX, .nfUmOfAm⟩,
  ⟨.leaIndAbs, .indAbs, .nfUmOfAm⟩, ⟨.leaZp, .zp, .nfUmOfAm⟩, ⟨.leaZpX, .zpX, .nfUmOfAm⟩,
  ⟨.leaQuadAbsY, .quadAbsY, .nfUmOfAm⟩, ⟨.leaQuadAbsX, .quadAbsX, .nfUmOfAm⟩, ⟨.leaQuadAbs, .quadAbs, .nfUmOfAm⟩,
  ⟨.leaIndZpX, .indZpX, .nfUmOfAm⟩, ⟨.leaRelByte, .relByte, .nfUmOfAm⟩, ⟨.leaAbs, .abs, .nfUmOfAm⟩,
  ⟨.leaIndZpY, .indZpY, .nfUmOfAm⟩, ⟨.leaIndZp, .indZp, .nfUmOfAm⟩, ⟨.leaAbsX, .absX, .nfUmOfAm⟩,
  ⟨.leaAbsY, .absY, .nfUmOfAm⟩, ⟨.leaQuadZpY, .quadZpY, .nfUmOfAm⟩, ⟨.leaQuadZpX, .quadZpX, .nfUmOfAm⟩,
  ⟨.leaQuadZp, .quadZp, .nfUmOfAm⟩, ⟨.leaZpY, .zpY, .nfUmOfAm⟩]

/-- The forms that read or write memory, or an immediate, at the width RS gives. -/
def dataForms : List Form :=
  oraForms ++ andForms ++ eorForms ++ adcForms ++ sbcForms ++ cmpForms ++ cpxForms ++ cpyForms
    ++ bitForms ++ [⟨.bitImm, .imm, .nfRsLe⟩] ++ ldaForms ++ ldxForms ++ ldyForms ++ staForms ++ stxForms ++ styForms ++ stzForms
    ++ aslForms ++ lsrForms ++ rolForms ++ rorForms ++ incForms ++ decForms ++ tsbForms ++ trbForms

/-- The forms without an operand whose data RS sizes. -/
def registerForms : List Form := [
  ⟨fun _ => .pha, .implied, .rsUm⟩, ⟨fun _ => .phy, .implied, .rsUm⟩, ⟨fun _ => .pla, .implied, .nfRsUmLe⟩,
  ⟨fun _ => .ply, .implied, .nfRsUmLe⟩, ⟨fun _ => .txa, .implied, .nfRsLe⟩, ⟨fun _ => .tya, .implied, .nfRsLe⟩,
  ⟨fun _ => .txs, .implied, .rsUmLe⟩, ⟨fun _ => .tay, .implied, .nfRsLe⟩, ⟨fun _ => .tax, .implied, .nfRsLe⟩,
  ⟨fun _ => .tsx, .implied, .nfRsUmLe⟩, ⟨fun _ => .phx, .implied, .rsUm⟩, ⟨fun _ => .plx, .implied, .nfRsUmLe⟩,
  ⟨fun _ => .aslAcc, .implied, .nfRs⟩, ⟨fun _ => .incAcc, .implied, .nfRs⟩, ⟨fun _ => .rolAcc, .implied, .nfRs⟩,
  ⟨fun _ => .decAcc, .implied, .nfRs⟩, ⟨fun _ => .lsrAcc, .implied, .nfRs⟩, ⟨fun _ => .rorAcc, .implied, .nfRs⟩,
  ⟨fun _ => .dey, .implied, .nfRs⟩, ⟨fun _ => .iny, .implied, .nfRs⟩, ⟨fun _ => .dex, .implied, .nfRs⟩,
  ⟨fun _ => .inx, .implied, .nfRs⟩, ⟨fun _ => .bitAcc, .implied, .nfRs⟩]

/-- The other forms: branches, RTS, TRP, flag instructions, NOP, PHP and PLP. -/
def controlForms : List Form := [
  ⟨.bpl, .branch, .onlyRs⟩, ⟨.bmi, .branch, .onlyRs⟩, ⟨.bvc, .branch, .onlyRs⟩,
  ⟨.bvs, .branch, .onlyRs⟩, ⟨.bra, .branch, .onlyRs⟩, ⟨.bcc, .branch, .onlyRs⟩, ⟨.bcs, .branch, .onlyRs⟩,
  ⟨.bne, .branch, .onlyRs⟩, ⟨.beq, .branch, .onlyRs⟩, ⟨.trp, .trapCode, .nothing⟩,
  ⟨fun _ => .php, .implied, .rsUm⟩, ⟨fun _ => .plp, .implied, .nothing⟩, ⟨fun _ => .clc, .implied, .nothing⟩,
  ⟨fun _ => .sec, .implied, .nothing⟩, ⟨fun _ => .cli, .implied, .nothing⟩, ⟨fun _ => .rts, .implied, .onlyRs⟩,
  ⟨fun _ => .sei, .implied, .nothing⟩, ⟨fun _ => .clv, .implied, .nothing⟩, ⟨fun _ => .cld, .implied, .nothing⟩,
  ⟨fun _ => .nop, .implied, .nothing⟩, ⟨fun _ => .sed, .implied, .nothing⟩]

/-- BRK, whose trap code is an immediate of the width RS gives. -/
def brkForm : Form := ⟨.brk, .imm, .onlyRs⟩

/-- The forms whose data RS sizes: a register operand, a memory operand or an immediate (R151, D10). -/
def sizedForms : List Form := dataForms ++ registerForms ++ [brkForm]

/-- The forms where RS sizes an offset or a return address, or nothing (R151). -/
def unsizedForms : List Form := controlForms ++ jmpForms ++ jsrForms ++ bsrForms ++ leaForms

/-- Every form the spec gives a meaning to. -/
def executedForms : List Form := sizedForms ++ unsizedForms

/-- The EXT-page operations whose computation the source does not describe, with their mnemonics (D25). -/
def unspecifiedForms : List ((Word → Instr) × String) := [
  (.pea .indAbsY, "PEA"), (.pea .relWide, "PEA"), (.pea .indAbsX, "PEA"), (.pea .indAbs, "PEA"),
  (.pea .quadAbsY, "PEA"), (.pea .quadAbsX, "PEA"), (.pea .quadAbs, "PEA"), (.pea .indZpX, "PEA"),
  (.pea .relByte, "PEA"), (.pea .zp, "PEA"), (.pea .indZpY, "PEA"), (.pea .indZp, "PEA"), (.pea .zpX, "PEA"),
  (.pea .quadZpY, "PEA"), (.pea .abs, "PEA"), (.pea .quadZpX, "PEA"), (.pea .quadZp, "PEA"), (.pea .zpY, "PEA"),
  (.pea .absX, "PEA"), (.pea .absY, "PEA"), (fun _ => .addIndE, "ADD"), (fun _ => .mvn, "MVN"), (.addImm, "ADD"),
  (.asrMem .zp, "ASR"), (fun _ => .phe, "PHE"), (fun _ => .asr, "ASR"), (.asrMem .abs, "ASR"), (.bev, "BEV"),
  (fun _ => .mvp, "MVP"), (.asrMem .zpX, "ASR"), (fun _ => .asrIndE, "ASR"), (.asrMem .absX, "ASR"),
  (.asrMem .absY, "ASR"), (fun _ => .fil, "FIL"), (.adeImm, "ADE"), (.rdlMem .zp, "RDL"), (fun _ => .ple, "PLE"),
  (fun _ => .rdl, "RDL"), (fun _ => .sca, "SCA"), (.rdlMem .abs, "RDL"), (.bod, "BOD"), (fun _ => .ade, "ADE"),
  (.rdlMem .zpX, "RDL"), (.lde, "LDE"), (fun _ => .lla, "LLA"), (fun _ => .rdlIndE, "RDL"), (.rdlMem .absX, "RDL"),
  (.rdlMem .absY, "RDL"), (fun _ => .psh, "PSH"), (.adsImm, "ADS"), (fun _ => .phb, "PHB"), (.blts, "BLTS"),
  (fun _ => .pll, "PLL"), (fun _ => .ads, "ADS"), (fun _ => .prb, "PRB"), (.ldb, "LDB"), (fun _ => .rmb, "RMB"),
  (.adbImm, "ADB"), (.rdrMem .zp, "RDR"), (fun _ => .plb, "PLB"), (fun _ => .rdr, "RDR"), (.rdrMem .abs, "RDR"),
  (.bges, "BGES"), (fun _ => .wmb, "WMB"), (fun _ => .adb, "ADB"), (.rdrMem .zpX, "RDR"),
  (fun _ => .rdrIndE, "RDR"), (.rdrMem .absX, "RDR"), (.rdrMem .absY, "RDR"), (fun _ => .subIndE, "SUB"),
  (fun _ => .hbs, "HBS"), (.subImm, "SUB"), (fun _ => .tae, "TAE"), (fun _ => .tys, "TYS"), (.ble, "BLE"),
  (fun _ => .hbc, "HBC"), (fun _ => .tea, "TEA"), (fun _ => .sxy, "SXY"), (fun _ => .inv, "INV"), (.sbeImm, "SBE"),
  (fun _ => .sab, "SAB"), (.bgt, "BGT"), (fun _ => .bcn, "BCN"), (fun _ => .sbe, "SBE"), (fun _ => .seb, "SEB"),
  (fun _ => .sax, "SAX"), (fun _ => .extOp, "EXT"), (.sbsImm, "SBS"), (fun _ => .tpa, "TPA"),
  (fun _ => .tsy, "TSY"), (.bles, "BLES"), (fun _ => .swp, "SWP"), (fun _ => .sbs, "SBS"), (fun _ => .sae, "SAE"),
  (fun _ => .say, "SAY"), (.sbbImm, "SBB"), (fun _ => .tab, "TAB"), (fun _ => .teb, "TEB"),
  (fun _ => .rmbIndE, "RMB"), (.bgts, "BGTS"), (fun _ => .bsw, "BSW"), (fun _ => .sbb, "SBB"),
  (fun _ => .tba, "TBA"), (fun _ => .tbe, "TBE"), (fun _ => .wmbIndE, "WMB")]

/-- The branches and the flag each tests (R412, R416, R421, R425, R428, R431, R433, R435, R439). -/
def branchForms : List ((Word → Instr) × (Flags → Bool)) := [
  (.bpl, fun p => !p.n), (.bmi, fun p => p.n), (.bvc, fun p => !p.v), (.bvs, fun p => p.v), (.bcc, fun p => !p.c),
  (.bcs, fun p => p.c), (.bne, fun p => !p.z), (.beq, fun p => p.z), (.bra, fun _ => true)]

/-- The cells of the standard page without a meaning, and the reason each is refused with (R445 to R448). -/
def meaninglessCells : List (Instr × Refusal) := [
  (.sysPage, .pageNotDescribed 0x2F#8), (.quickPage, .pageNotDescribed 0x4F#8),
  (.reserved6F, .reservedPrefix 0x6F#8), (.reserved8F, .reservedPrefix 0x8F#8),
  (.reserved9F, .reservedPrefix 0x9F#8), (.reservedAF, .reservedPrefix 0xAF#8),
  (.reservedBF, .reservedPrefix 0xBF#8), (.reservedCF, .reservedPrefix 0xCF#8),
  (.reservedDF, .reservedPrefix 0xDF#8), (.reservedEF, .reservedPrefix 0xEF#8),
  (.reservedFF, .reservedPrefix 0xFF#8), (.unassigned1F, .emptyCell 0x1F#8), (.unassigned3F, .emptyCell 0x3F#8),
  (.unassigned54, .emptyCell 0x54#8), (.unassigned5C, .emptyCell 0x5C#8), (.unassigned5F, .emptyCell 0x5F#8),
  (.unassigned7F, .emptyCell 0x7F#8), (.unassignedD4, .emptyCell 0xD4#8)]

end Sys2Proof.Machine
end

