-- ==== Sys2Proof/Certificates/Slice0/Obligations.lean ====
section
/-! DEFINITION. The statements for the provers. Each docstring names the rules of spec/ a statement comes from, or says that
it is the model's own choice and where that is logged. "The state" of an executed instruction is the state after its fetch:
PC is `PC_next` (spec/30_encoding.md R85). -/

open Sys2Proof Sys2Proof.Machine

/-! ### Encoding -/

/-- Decoding the bytes of any well-formed unit gives it back, whatever follows, for every `EXTMAP` (R80, R81, R84, R90,
R92 to R96). -/
def Obligations.DecodeReadsEncoding : Prop :=
  ∀ (m : ExtMap) (c : Context) (i : Instr) (rest : List Byte),
    WellFormed m c i = true → decode m c (encode m c i ++ rest) = .ok (i, rest)

/-- With the default `EXTMAP`, what is decoded encodes to the bytes it was read from: no bit is dropped and no unit has two
encodings in one context (R80, R81, R92 to R96). -/
def Obligations.EncodingReadsBack : Prop :=
  ∀ (c : Context) (bs : List Byte) (i : Instr) (rest : List Byte),
    decode [] c bs = .ok (i, rest) → encode [] c i ++ rest = bs

/-- What the decoder answers is well formed, for every `EXTMAP` (R84, R88, R90, R92). -/
def Obligations.DecodedIsWellFormed : Prop :=
  ∀ (m : ExtMap) (c : Context) (bs : List Byte) (i : Instr) (rest : List Byte),
    decode m c bs = .ok (i, rest) → WellFormed m c i = true

/-- A whole instruction with its prefix and page bytes decodes to the record and the opcode it was written from (R84, R85). -/
def Obligations.InstructionReadsEncoding : Prop :=
  ∀ (m : ExtMap) (c : Context) (i : Instr) (rest : List Byte),
    c.extend i = none → WellFormed m c i = true →
      decodeInstruction m (encodeInstruction m c i ++ rest) = .ok (c, i, rest)

/-- Words written out from the encoding rules: the source's `23 A9 78 56 34 12` (R51), `07 13 20` (R88), `CB A5 00` (R81),
`0F A9` (R444) and `13 80 00 01` (R92). That `0F A9` is LDA (E) holds of the default `EXTMAP`, whose columns are inferred: R96
marks this one a guess (DEDUCED, notes/assumptions/12.md). -/
def Obligations.SpecWordsDecode : Prop :=
  decodeInstruction [] [0x23#8, 0xA9#8, 0x78#8, 0x56#8, 0x34#8, 0x12#8]
      = .ok (⟨some ⟨.none, .b32, false⟩, none, .std⟩, .ldaImm 0x12345678#64, [])
    ∧ decodeInstruction [] [0x07#8, 0x13#8, 0x20#8] = .ok (⟨some ⟨.none, .b8, true⟩, none, .std⟩, .oraQuadZpY 0x20#64, [])
    ∧ decodeInstruction [] [0xCB#8, 0xA5#8, 0x00#8] = .ok (⟨none, some ⟨true, .zero, false⟩, .std⟩, .ldaZp 0#64, [])
    ∧ decodeInstruction [] [0x0F#8, 0xA9#8] = .ok (⟨none, none, .ext⟩, .ldaIndE, [])
    ∧ decodeInstruction [] [0x13#8, 0x80#8, 0x00#8, 0x01#8]
      = .ok (⟨some ⟨.none, .b16, false⟩, none, .std⟩, .bra 0x100#64, [])

/-- After a prefix byte, a byte of prefix1 pattern without AM=1 is refused (R88, R98 c), and a byte of prefix2 pattern after a
prefix2 is refused (R98 d, R443). -/
def Obligations.MisplacedPrefixRefused : Prop :=
  ∀ (m : ExtMap) (c : Context) (b : Byte) (bs : List Byte), c.page = .std →
    (isPrefix1 b = true → (c.prefix1 ≠ none ∨ c.prefix2 ≠ none) → c.am = false →
      decode m c (b :: bs) = .error (.duplicateOpcode b))
    ∧ (isPrefix2 b = true → c.prefix2 ≠ none → decode m c (b :: bs) = .error (.secondPrefix2 b))

/-! ### A step -/

/-- Where the bytes at PC decode to an instruction, `step` is `exec` of it on the state after its fetch (R85), and between
instructions the record of the decoding is empty (R33). That one step is a whole instruction, run from a record in the state, is
the model's choice (notes/assumptions/11.md); that the opcode byte of an EXT-page instruction, `opcodeAt`, is the byte after
the page byte is DEDUCED (notes/assumptions/9.md). -/
def Obligations.StepRunsTheInstruction : Prop :=
  ∀ (s : State) (c : Context) (i : Instr) (rest : List Byte),
    decodeInstruction s.opts.extMap (s.loadBytes s.cur s.pc 12) = .ok (c, i, rest) →
      step s =
        match exec i { s with
            ctx := c
            start := s.addr s.pc
            opcodeAt := s.addr (s.pc
              + BitVec.ofNat 64 (c.prefix1.isSome.toNat + c.prefix2.isSome.toNat + (c.page == .ext).toNat))
            pc := s.addr (s.pc + BitVec.ofNat 64 (12 - rest.length)) } with
        | .next t => .next { t with ctx := .start, start := 0, opcodeAt := 0 }
        | .fault f => .fault f
        | .refused r => .refused r

/-- Where the bytes at PC are no instruction, `step` refuses with the decoder's reason (R98, R906). -/
def Obligations.StepRefusesUndecodable : Prop :=
  ∀ (s : State) (e : DecodeError),
    decodeInstruction s.opts.extMap (s.loadBytes s.cur s.pc 12) = .error e → step s = .refused (.undecodable e)

/-- A prefix byte and the page byte set their field of the instruction's record and change nothing else (R83, R444). That a unit is a
value of `Instr` and its fields stand in the state is the model's choice (notes/assumptions/11.md). -/
def Obligations.PrefixBytesOnlySetFields : Prop :=
  ∀ (f : Prefix1) (g : Prefix2) (s : State),
    exec (.prefix1 f) s = .next { s with ctx := { s.ctx with prefix1 := some f } }
    ∧ exec (.prefix2 g) s = .next { s with ctx := { s.ctx with prefix2 := some g } }
    ∧ exec .extPage s = .next { s with ctx := { s.ctx with page := .ext } }

/-! ### CheckPrefix and the other refusals -/

/-- Every form refuses a prefix field that its cell does not list, and a missing AM=1 (R162, D6, D7). -/
def Obligations.UnlistedFieldRefused : Prop :=
  ∀ f ∈ executedForms, ∀ (op : Word) (s : State), ¬ FieldsListed f.listed s →
    ∃ r, exec (f.make op) s = .refused r ∧ (r = .amRequired ∨ ∃ field, r = .unlistedField field)

/-- UM=1, where listed, is refused on a processor without hypervisor mode and aborts in user mode (R159). -/
def Obligations.UmIsPrivileged : Prop :=
  ∀ f ∈ executedForms, ∀ (op : Word) (s : State), FieldsListed f.listed s → s.ctx.um = true →
    (s.opts.hyp = false → exec (f.make op) s = .refused .umWithoutHypervisor)
    ∧ (s.opts.hyp = true → s.mode = .user → exec (f.make op) s = .fault (.abortUmInUserMode s.start s.pc))

/-- An RS width above `W` is refused where RS sizes data: a register operand, a memory operand or an immediate (R151, D10). That
BRK is one of them against R410's comment is the model's choice (notes/assumptions/18.md). -/
def Obligations.WideOperationRefused : Prop :=
  ∀ f ∈ sizedForms, ∀ (op : Word) (s : State), FieldsListed f.listed s → UmAllowed s → s.W < s.w →
    exec (f.make op) s = .refused .widthAboveRegister

/-- OF=01 with `PCREL_BASE` unset is refused (R137, D11), where RS sizes no data whatever RS is (R151); and so are ADC and SBC
in decimal mode (D15). -/
def Obligations.OpenParametersRefused : Prop :=
  (∀ f ∈ sizedForms, ∀ (op : Word) (s : State), FieldsListed f.listed s → UmAllowed s → s.w ≤ s.W →
    s.ctx.of = .pc → s.opts.pcrelBase = none → exec (f.make op) s = .refused .pcrelBaseUnset)
  ∧ (∀ f ∈ unsizedForms, ∀ (op : Word) (s : State), FieldsListed f.listed s → UmAllowed s →
    s.ctx.of = .pc → s.opts.pcrelBase = none → exec (f.make op) s = .refused .pcrelBaseUnset)
  ∧ ∀ f ∈ adcForms ++ sbcForms, ∀ (op : Word) (s : State), AcceptedData f.listed s → s.p.d = true →
    exec (f.make op) s = .refused .decimalMode

/-- A page-zero access that passes `$FF` with AM=0 and OF=00 is refused (R135, R136, D14). -/
def Obligations.PageZeroWrapRefused : Prop :=
  (∀ f ∈ dataForms, ∀ (op : Word) (s : State), AcceptedData f.listed s → s.p.d = false →
    ¬ InsidePageZero f.mode op s → exec (f.make op) s = .refused .zeroPageWrap)
  ∧ ∀ f ∈ leaForms, ∀ (op : Word) (s : State), Accepted f.listed s → ¬ InsidePageZero f.mode op s →
    exec (f.make op) s = .refused .zeroPageWrap

/-- The refusals of single instructions: PHP with RS other than 00 (D30), a `long` operand with AM=1 (D27), the quad forms of
LEA with AM=1 (D43), the relative forms of LEA with OF other than 00 (D42). -/
def Obligations.SingleRefusals : Prop :=
  ∀ (op : Word) (s : State),
    (Accepted .rsUm s → s.ctx.rs ≠ .b8 → exec .php s = .refused .phpWidth)
    ∧ (Accepted .umOfLeAm s → s.ctx.am = true → exec (.jmpLong op) s = .refused .longWithAm)
    ∧ (Accepted .rsOfLeAm s → s.ctx.am = true → exec (.jsrLong op) s = .refused .longWithAm)
    ∧ ∀ f ∈ leaForms, Accepted f.listed s →
        (pointerSize f.mode false = 8 → s.ctx.am = true → exec (f.make op) s = .refused .quadWithAm)
        ∧ (f.mode = .relByte ∨ f.mode = .relWide → s.ctx.of ≠ .none → exec (f.make op) s = .refused .leaRelOffset)

/-- A jump that R172 gives no target is refused with one of its three reasons, and a call or return whose return address is
not `AW` bits wide is refused (R171, R172, D24, D29, D41). -/
def Obligations.JumpsRefused : Prop :=
  ∀ (op : Word) (s : State),
    (∀ f ∈ jmpForms, Accepted f.listed s → (f.mode = .long → s.ctx.am = false) → ¬ JumpReady f.listed f.mode s →
      ∃ r, exec (f.make op) s = .refused r ∧ (r = .jumpUpperBits ∨ r = .jumpLe ∨ r = .jumpUm))
    ∧ (∀ f ∈ jsrForms, Accepted f.listed s → (f.mode = .long → s.ctx.am = false) → ReturnReady s →
      ¬ JumpReady f.listed f.mode s → ∃ r, exec (f.make op) s = .refused r ∧ (r = .jumpUpperBits ∨ r = .jumpLe))
    ∧ (∀ f ∈ jsrForms, Accepted f.listed s → (f.mode = .long → s.ctx.am = false) → ¬ ReturnReady s →
      exec (f.make op) s = .refused .returnWidth)
    ∧ (∀ f ∈ bsrForms, Accepted f.listed s → ¬ ReturnReady s → exec (f.make op) s = .refused .returnWidth)
    ∧ (Accepted .onlyRs s → ¬ ReturnReady s → exec .rts s = .refused .returnWidth)

/-! ### Shared values -/

/-- `MemRead` is the little-endian sum of its bytes, each address modulo `2^AW` (R52). -/
def Obligations.MemReadIsLittleEndian : Prop :=
  ∀ (s : State) (env : Mode) (a : Word) (n : Nat), n ≤ 8 →
    (s.memRead env a n).toNat =
      ((List.range n).map fun i => (s.byteAt env (s.address (a.toNat + i))).toNat * 256 ^ i).sum

/-- `Extend`, bit by bit, and the width of the operation (R152). -/
def Obligations.ExtendIsR152 : Prop :=
  ∀ (s : State) (m : Word) (j : Nat),
    (s.opWidth .none = s.w ∧ (s.extend .none m).getLsbD j = (decide (j < s.w) && m.getLsbD j))
    ∧ (s.opWidth .sign = s.W ∧ (s.extend .sign m).getLsbD j
        = (decide (j < s.W) && (if j < s.w then m.getLsbD j else m.getLsbD (s.w - 1))))
    ∧ (s.opWidth .zero = s.W ∧ (s.extend .zero m).getLsbD j = (decide (j < s.W) && decide (j < s.w) && m.getLsbD j))
    ∧ (s.opWidth .ones = s.W ∧ (s.extend .ones m).getLsbD j
        = (decide (j < s.W) && (if j < s.w then m.getLsbD j else true)))

/-- `OffReg()`: nothing, the PC that `PCREL_BASE` names, `SP(um)` or BR, reduced to `AW` bits (R134, R137). -/
def Obligations.OffsetRegisterIsR134 : Prop :=
  ∀ s : State,
    (s.ctx.of = .none → s.offReg = 0)
    ∧ (s.ctx.of = .sp → s.offReg = s.address (value s.W (s.spCell s.ctx.um)))
    ∧ (s.ctx.of = .br → s.offReg = s.address (value s.W s.br))
    ∧ (s.ctx.of = .pc → s.opts.pcrelBase = some .firstByte → s.offReg = s.address s.start.toNat)
    ∧ (s.ctx.of = .pc → s.opts.pcrelBase = some .opcodeByte → s.offReg = s.address s.opcodeAt.toNat)
    ∧ (s.ctx.of = .pc → s.opts.pcrelBase = some .nextInstruction → s.offReg = s.address s.pc.toNat)

/-- The direct modes: operand, offset register and all `W` bits of the index register, modulo `2^AW` (R135). -/
def Obligations.DirectAddressIsR135 : Prop :=
  ∀ (s : State) (op : Word) (mode : AddrMode),
    (mode ∈ [AddrMode.zp, .abs, .long] → s.ea mode op = s.address (op.toNat + s.offReg.toNat))
    ∧ (mode ∈ [AddrMode.zpX, .absX] → s.ea mode op = s.address (op.toNat + s.offReg.toNat + value s.W s.x))
    ∧ (mode ∈ [AddrMode.zpY, .absY] → s.ea mode op = s.address (op.toNat + s.offReg.toNat + value s.W s.y))

/-- The indirect modes: where the stored address is found, how many bytes it has, the environment it is read in, and Y added
to it and not the offset register (R136, R158). -/
def Obligations.IndirectAddressIsR136 : Prop :=
  ∀ (s : State) (op : Word) (mode : AddrMode),
    let size := if s.ctx.am = true then 4 else 2
    let at_ := fun (x : Nat) => s.address (op.toNat + s.offReg.toNat + x)
    let ptr := fun (x size : Nat) => (s.memRead (s.envFor s.ctx.um) (at_ x) size).toNat
    (mode ∈ [AddrMode.indZp, .indAbs] → s.ea mode op = s.address (ptr 0 size))
    ∧ (mode ∈ [AddrMode.indZpX, .indAbsX] → s.ea mode op = s.address (ptr (value s.W s.x) size))
    ∧ (mode ∈ [AddrMode.indZpY, .indAbsY] → s.ea mode op = s.address (ptr 0 size + value s.W s.y))
    ∧ (mode ∈ [AddrMode.quadZp, .quadAbs] → s.ea mode op = s.address (ptr 0 8))
    ∧ (mode ∈ [AddrMode.quadZpX, .quadAbsX] → s.ea mode op = s.address (ptr (value s.W s.x) 8))
    ∧ (mode ∈ [AddrMode.quadZpY, .quadAbsY] → s.ea mode op = s.address (ptr 0 8 + value s.W s.y))

/-- `(E)` is the value of E (R138); a relative mode adds the signed offset to `PC_next`, modulo `2^AW` (R139; the
base and the sign are decision D12's). -/
def Obligations.EIndirectAndRelativeAddress : Prop :=
  ∀ (s : State) (op : Word),
    s.ea .indE op = s.address (value s.W s.e)
    ∧ ∀ mode ∈ [AddrMode.branch, .relByte, .relWide],
        s.ea mode op = s.address
          (((s.pc.toNat : Int) + signed (8 * mode.operandBytes s.ctx.am s.ctx.rs) op) % (2 ^ s.AW : Nat)).toNat

/-- Where a push writes and a pull reads, in both disciplines (R170). -/
def Obligations.StackAddressesAreR170 : Prop :=
  ∀ (s : State) (um : Bool) (k : Nat), k ≤ 8 →
    let sp := value s.W (s.spCell um)
    (s.opts.stack = .fullDescending →
      s.pushAddr um k = BitVec.ofNat 64 ((sp + 2 ^ s.W - k) % 2 ^ s.W) ∧ s.pullAddr um = BitVec.ofNat 64 sp)
    ∧ (s.opts.stack = .emptyDescending →
      s.pushAddr um k = BitVec.ofNat 64 ((sp + 2 ^ s.W - k + 1) % 2 ^ s.W)
      ∧ s.pullAddr um = BitVec.ofNat 64 ((sp + 1) % 2 ^ s.W))

/-- V of ADC and SBC is signed overflow: set exactly when the signed result does not fit the operation width (R28, D16). -/
def Obligations.OverflowIsSignedOverflow : Prop :=
  ∀ k ∈ [8, 16, 32, 64], ∀ (a b : Word) (p : Flags),
    let out := fun (x : Int) => decide (x < -(2 ^ (k - 1) : Nat) ∨ ((2 ^ (k - 1) : Nat) : Int) ≤ x)
    (addFlags k a b p).v = out (signed k a + signed k b + p.c.toNat)
    ∧ (subFlags k a b p).v = out (signed k a - signed k b - (!p.c).toNat)

/-! ### What each instruction does -/

/-- ORA, AND and EOR, every form: the low `opw` bits of A become the bitwise result, N and Z are its, nothing else changes
(R200 to R235, R450, R456, R460). -/
def Obligations.LogicResult : Prop :=
  ∀ p ∈ [((fun a b => a || b : Bool → Bool → Bool), oraForms), (fun a b => a && b, andForms), (fun a b => a != b, eorForms)],
    ∀ f ∈ p.2, ∀ (op : Word) (s : State), DataReady f.listed f.mode op s →
      let le := s.leEff .none
      let k := s.opWidth le
      let b := s.extend le (s.readOp f.mode op)
      ∃ v, exec (f.make op) s = .next { s with a := v, p := s.flagsUnlessNf (s.p.withNZ k (value k v)) }
        ∧ (∀ j < k, v.getLsbD j = p.1 (s.a.getLsbD j) (b.getLsbD j)) ∧ KeepsAbove s k s.a v

/-- ADC, every form, with D=0: the exact sum of A, the operand and C; C is its bit `opw`, V as R244 says (R244). -/
def Obligations.AdcResult : Prop :=
  ∀ f ∈ adcForms, ∀ (op : Word) (s : State), DataReady f.listed f.mode op s → s.p.d = false →
    let le := s.leEff .none
    let k := s.opWidth le
    let b := s.extend le (s.readOp f.mode op)
    let sum := value k s.a + value k b + s.p.c.toNat
    let top := fun (v : Word) => v.getLsbD (k - 1)
    ∃ v, exec (f.make op) s = .next { s with
          a := v
          p := s.flagsUnlessNf { s.p.withNZ k (value k v) with
            c := decide (2 ^ k ≤ sum)
            v := (top s.a == top b) && (top v != top s.a) } }
      ∧ value k v = sum % 2 ^ k ∧ KeepsAbove s k s.a v

/-- SBC, every form, with D=0: the exact sum of A, the complement of the operand and C; C is its bit `opw`, V as R273 says
(R273). -/
def Obligations.SbcResult : Prop :=
  ∀ f ∈ sbcForms, ∀ (op : Word) (s : State), DataReady f.listed f.mode op s → s.p.d = false →
    let le := s.leEff .none
    let k := s.opWidth le
    let b := s.extend le (s.readOp f.mode op)
    let sum := value k s.a + (2 ^ k - 1 - value k b) + s.p.c.toNat
    let top := fun (v : Word) => v.getLsbD (k - 1)
    ∃ v, exec (f.make op) s = .next { s with
          a := v
          p := s.flagsUnlessNf { s.p.withNZ k (value k v) with
            c := decide (2 ^ k ≤ sum)
            v := (top s.a != top b) && (top v != top s.a) } }
      ∧ value k v = sum % 2 ^ k ∧ KeepsAbove s k s.a v

/-- CMP, CPX and CPY, every form: N, Z and C of the difference at `opw`, and nothing else (R257). -/
def Obligations.CompareResult : Prop :=
  ∀ p ∈ [(Reg.a, cmpForms), (.x, cpxForms), (.y, cpyForms)],
    ∀ f ∈ p.2, ∀ (op : Word) (s : State), DataReady f.listed f.mode op s →
      let le := s.leEff .none
      let k := s.opWidth le
      let a := value k (s.cellOf p.1)
      let b := value k (s.extend le (s.readOp f.mode op))
      exec (f.make op) s = .next { s with p := { s.p with
        n := ((a + 2 ^ k - b) % 2 ^ k).testBit (k - 1)
        z := decide (a = b)
        c := decide (b ≤ a) } }

/-- BIT on memory sets Z from A AND the operand and N, V from the operand's top bits; `BIT #byte` sets Z alone (R240, R256,
D17). -/
def Obligations.BitResult : Prop :=
  (∀ f ∈ bitForms, ∀ (op : Word) (s : State), DataReady f.listed f.mode op s →
    let le := s.leEff .none
    let k := s.opWidth le
    let b := s.extend le (s.readOp f.mode op)
    exec (f.make op) s = .next { s with p := s.flagsUnlessNf { s.p with
      z := decide (value k (s.a &&& b) = 0), n := b.getLsbD (k - 1), v := b.getLsbD (k - 2) } })
  ∧ ∀ (op : Word) (s : State), DataReady .nfRsLe .imm op s →
    let le := s.leEff .none
    let k := s.opWidth le
    let b := s.extend le (low s.w op)
    exec (.bitImm op) s = .next { s with p := s.flagsUnlessNf { s.p with z := decide (value k (s.a &&& b) = 0) } }

/-- `BIT A`: N and Z from A at width `w`, V a free value, with NF=0; nothing with NF=1 (R459, D36). The counter `draws` is the
model's own (notes/assumptions/7.md). -/
def Obligations.BitAccumulatorResult : Prop :=
  ∀ s : State, AcceptedData .nfRs s →
    exec .bitAcc s = .next (if s.ctx.nf = true then s else { s with
      p := { s.p.withNZ s.w (value s.w s.a) with v := Config.freeBit s.draws }
      draws := s.draws + 1 })

/-- LDA, LDX and LDY, every form: the operand goes into the register, extended as LE says, with N and Z from the `w`-bit value
(R163, R165). -/
def Obligations.LoadResult : Prop :=
  ∀ p ∈ [(Reg.a, ldaForms), (.x, ldxForms), (.y, ldyForms)],
    ∀ f ∈ p.2, ∀ (op : Word) (s : State), DataReady f.listed f.mode op s →
      LoadsInto (f.make op) p.1 (s.readOp f.mode op) s

/-- STA, STX, STY and STZ, every form: `n` bytes of the register, or zeros, at the effective address; no flag, no register
(R156). -/
def Obligations.StoreResult : Prop :=
  ∀ p ∈ [((fun s => s.a : State → Word), staForms), (fun s => s.x, stxForms), (fun s => s.y, styForms),
      (fun _ => 0, stzForms)],
    ∀ f ∈ p.2, ∀ (op : Word) (s : State), s.mem.wf = true → DataReady f.listed f.mode op s →
      ∃ m, exec (f.make op) s = .next { s with mem := m }
        ∧ Stored s (s.envFor s.ctx.um) (s.ea f.mode op) s.n (p.1 s) m

/-- PHA, PHX and PHY push `n` bytes of the register; PHP pushes the status byte `N V 1 1 D I Z C` (R29, R170, R350, R352, R353,
R362). -/
def Obligations.PushResult : Prop :=
  ∀ s : State, s.mem.wf = true →
    (AcceptedData .rsUm s →
      Pushes .pha s.ctx.um s.n s.a s ∧ Pushes .phx s.ctx.um s.n s.x s ∧ Pushes .phy s.ctx.um s.n s.y s)
    ∧ (Accepted .rsUm s → s.ctx.rs = .b8 →
      ∃ v : Word, Pushes .php s.ctx.um 1 v s
        ∧ [v.getLsbD 7, v.getLsbD 6, v.getLsbD 5, v.getLsbD 4, v.getLsbD 3, v.getLsbD 2, v.getLsbD 1, v.getLsbD 0]
          = [s.p.n, s.p.v, true, true, s.p.d, s.p.i, s.p.z, s.p.c])

/-- PLA, PLX and PLY: the `n` bytes pulled go into the register as a load does, and the stack pointer moves up (R165, R170,
R354, R355, R363). -/
def Obligations.PullResult : Prop :=
  ∀ p ∈ [(Instr.pla, Reg.a), (.plx, .x), (.ply, .y)], ∀ s : State, AcceptedData .nfRsUmLe s →
    let m := s.memRead (s.envFor s.ctx.um) (s.pullAddr s.ctx.um) s.n
    ∃ v, exec p.1 s = .next ((({ s with p := s.flagsUnlessNf (s.p.withNZ s.w (value s.w m)) } : State).withCell p.2 v).withSp
          s.ctx.um (s.spAfterPull s.ctx.um s.n))
      ∧ if s.leEff .zero = .none then value s.w v = value s.w m ∧ KeepsAbove s s.w (s.cellOf p.2) v
        else v = s.extend (s.leEff .zero) m

/-- PLP: the six flags from the byte pulled, bits 5 and 4 ignored (R29, R351). -/
def Obligations.PlpResult : Prop :=
  ∀ s : State, Accepted .nothing s →
    let b := s.byteAt s.cur (s.pullAddr false)
    exec .plp s = .next (({ s with p := ⟨b.getLsbD 7, b.getLsbD 6, b.getLsbD 3, b.getLsbD 2, b.getLsbD 1, b.getLsbD 0⟩ }
      : State).withSp false (s.spAfterPull false 1))

/-- TAX, TAY, TXA, TYA and TSX load the low `w` bits of their source; TXS loads `SP(um)` from X and writes no flag (R165, R356
to R361). -/
def Obligations.TransferResult : Prop :=
  ∀ s : State,
    (AcceptedData .nfRsLe s → LoadsInto .tax .x s.a s ∧ LoadsInto .tay .y s.a s ∧ LoadsInto .txa .a s.x s
      ∧ LoadsInto .tya .a s.y s)
    ∧ (AcceptedData .nfRsUmLe s → LoadsInto .tsx .x (low s.W (s.spCell s.ctx.um)) s)
    ∧ (AcceptedData .rsUmLe s →
      ∃ v, exec .txs s = .next (s.withSp s.ctx.um v)
        ∧ if s.leEff .zero = .none then value s.w v = value s.w s.x ∧ KeepsAbove s s.w (s.spCell s.ctx.um) v
          else v = s.extend (s.leEff .zero) s.x)

/-- ASL, LSR, ROL, ROR, INC and DEC on memory, every form (R371, R380, R386, R391, R397, R403, R156). -/
def Obligations.ShiftAndCountMemory : Prop :=
  ∀ p ∈ [(specAsl, aslForms), (specLsr, lsrForms), (specRol, rolForms), (specRor, rorForms), (specInc, incForms),
      (specDec, decForms)],
    ∀ f ∈ p.2, ∀ (op : Word) (s : State), s.mem.wf = true → DataReady f.listed f.mode op s →
      ModifiesMemory (f.make op) f.mode op p.1 s

/-- TSB and TRB, every form: Z from memory AND A before the write, then A's bits set or cleared (R370, R375). -/
def Obligations.TestAndSetMemory : Prop :=
  ∀ p ∈ [((fun m a => m ||| a : Word → Word → Word), tsbForms), (fun m a => m &&& ~~~ a, trbForms)],
    ∀ f ∈ p.2, ∀ (op : Word) (s : State), s.mem.wf = true → DataReady f.listed f.mode op s →
      let env := s.envFor s.ctx.um
      let m := s.memRead env (s.ea f.mode op) s.n
      ∃ mem, exec (f.make op) s = .next { s with
            mem := mem, p := s.flagsUnlessNf { s.p with z := decide (value s.w (m &&& s.a) = 0) } }
        ∧ Stored s env (s.ea f.mode op) s.n (p.1 m s.a) mem

/-- The accumulator forms of the shifts, INC and DEC, and INX, INY, DEX, DEY (R372, R377, R381, R384, R387, R392, R396,
R398, R399, R404). -/
def Obligations.ShiftAndCountRegister : Prop :=
  ∀ p ∈ [(Instr.aslAcc, Reg.a, specAsl), (.lsrAcc, .a, specLsr), (.rolAcc, .a, specRol), (.rorAcc, .a, specRor),
      (.incAcc, .a, specInc), (.decAcc, .a, specDec), (.inx, .x, specInc), (.iny, .y, specInc), (.dex, .x, specDec),
      (.dey, .y, specDec)],
    ∀ s : State, AcceptedData .nfRs s → ModifiesRegister p.1 p.2.1 p.2.2 s

/-- The branches: PC is `PC_next` plus the signed offset if the flag has the value tested, else `PC_next` (R139, R412 to
R439). -/
def Obligations.BranchResult : Prop :=
  ∀ p ∈ branchForms, ∀ (op : Word) (s : State), Accepted .onlyRs s →
    exec (p.1 op) s = .next (if p.2 s.p = true
      then { s with pc := s.address (((s.pc.toNat : Int) + signed (8 * s.n) op) % (2 ^ s.AW : Nat)).toNat }
      else s)

/-- JMP, every form: PC becomes the effective address, nothing else changes (R172, R420). -/
def Obligations.JmpResult : Prop :=
  ∀ f ∈ jmpForms, ∀ (op : Word) (s : State), JumpReady f.listed f.mode s →
    exec (f.make op) s = .next { s with pc := s.ea f.mode op }

/-- JSR and BSR, every form: the address of the call's last byte is pushed and PC goes to the effective address (R171, R172,
R414, R429). -/
def Obligations.CallResult : Prop :=
  ∀ (op : Word) (s : State), s.mem.wf = true → ReturnReady s →
    (∀ f ∈ jsrForms, JumpReady f.listed f.mode s → Calls (f.make op) f.mode op s)
    ∧ ∀ f ∈ bsrForms, Accepted f.listed s → Calls (f.make op) f.mode op s

/-- RTS: PC is the address pulled plus 1, the stack pointer moves up (R171, R423). -/
def Obligations.RtsResult : Prop :=
  ∀ s : State, Accepted .onlyRs s → ReturnReady s →
    exec .rts s = .next { s.withSp false (s.spAfterPull false s.retBytes) with
      pc := s.address ((s.memRead s.cur (s.pullAddr false) s.retBytes).toNat + 1) }

/-- The flag instructions write one flag, whatever NF is (they list no field), and NOP nothing (R413, R417, R422, R426, R434,
R436, R438, R441). -/
def Obligations.FlagInstructionResult : Prop :=
  ∀ s : State, Accepted .nothing s →
    exec .clc s = .next { s with p := { s.p with c := false } } ∧ exec .sec s = .next { s with p := { s.p with c := true } }
    ∧ exec .cli s = .next { s with p := { s.p with i := false } } ∧ exec .sei s = .next { s with p := { s.p with i := true } }
    ∧ exec .cld s = .next { s with p := { s.p with d := false } } ∧ exec .sed s = .next { s with p := { s.p with d := true } }
    ∧ exec .clv s = .next { s with p := { s.p with v := false } } ∧ exec .nop s = .next s

/-- LEA, every form: E is the effective address extended to `W`; with NF=0, N and Z are free values (R494 to R529, D36). The
counter `draws` is the model's own (notes/assumptions/7.md). -/
def Obligations.LeaResult : Prop :=
  ∀ f ∈ leaForms, ∀ (op : Word) (s : State), LeaReady f.listed f.mode op s →
    exec (f.make op) s = .next { s with
      e := BitVec.ofNat 64 (value s.W (s.ea f.mode op))
      p := if s.ctx.nf = true then s.p
        else { s.p with n := Config.freeBit s.draws, z := Config.freeBit (s.draws + 1) }
      draws := if s.ctx.nf = true then s.draws else s.draws + 2 }

/-- BRK and TRP raise their trap with the code, the address of the first byte and `PC_next` (R903, R904, R905); BRK where RS is
at most `W` (R151; WideOperationRefused says the rest). -/
def Obligations.TrapsRaise : Prop :=
  ∀ (op : Word) (s : State),
    (AcceptedData .onlyRs s → exec (.brk op) s = .fault (.trap .brk op s.start s.pc))
    ∧ (Accepted .nothing s → exec (.trp op) s = .fault (.trap .trp op s.start s.pc))

/-- RTI, PEA and the operations the source does not describe are refused in every state, before CheckPrefix (R418, R911,
D25). -/
def Obligations.UndescribedOperationsRefused : Prop :=
  ∀ (op : Word) (s : State),
    exec .rti s = .refused .rtiNotSpecified ∧ ∀ p ∈ unspecifiedForms, exec (p.1 op) s = .refused (.notSpecified p.2)

/-- The reserved, empty, SYS and QUICK cells are refused in every state (R445 to R448). -/
def Obligations.MeaninglessCellsRefused : Prop :=
  ∀ (s : State), ∀ p ∈ meaninglessCells, exec p.1 s = .refused p.2

/-! ### Rules of the whole machine -/

/-- Between instructions memory stays in its canonical form, every register fits its width and no trace of a decoding is left,
whatever the step ran (R3, R4, R33; the canonical form is the model's, notes/assumptions/5.md). -/
def Obligations.StepKeepsSettled : Prop :=
  ∀ s t : State, Settled s → step s = .next t → Settled t

/-- The launch state is settled. Its values are the model's choice (notes/assumptions/2.md). -/
def Obligations.ResetIsSettled : Prop := Settled State.reset

/-- No instruction changes a parameter or a matchcode (R31, R941), the mode (R922) or BR (R24, R940). -/
def Obligations.StepKeepsParameters : Prop :=
  ∀ s t : State, step s = .next t →
    t.opts = s.opts ∧ t.mch = s.mch ∧ t.mcu = s.mcu ∧ t.mode = s.mode ∧ t.br = s.br

/-- In user mode no instruction leaves user mode, moves the hypervisor stack pointer or writes a location outside the user
environment (R921, R923). -/
def Obligations.UserModeIsConfined : Prop :=
  ∀ s t : State, s.modeNow = .user → step s = .next t →
    t.modeNow = .user ∧ t.sph = s.sph ∧ ∀ loc, s.hiddenFromUser loc → t.mem.read loc = s.mem.read loc

/-- In user mode a step does not depend on SPH or on a location outside the user environment: two states that differ there
alone go to the same outcome, or to two states that differ there alone (R921, R923). The free values of LEA and `BIT A` are a
common input of the two runs: a function of `draws`, in which the states agree (DESIGN CHOICE, notes/assumptions/7.md). -/
def Obligations.UserModeLearnsNothing : Prop :=
  ∀ s t : State, s.modeNow = .user → s.mem.wf = true → t.mem.wf = true → SameForUser s t →
    Outcome.Agree SameForUser (step s) (step t)

/-- With NF=1 no instruction that reaches a next state writes a flag (R160; one that does not list NF is refused, R162). -/
def Obligations.NfKeepsFlags : Prop :=
  ∀ (i : Instr) (s t : State), s.ctx.nf = true → exec i s = .next t → t.p = s.p

/-- Prefix1 `03`, all its fields zero, changes nothing of the opcode that follows it (R86). The free values of LEA
and `BIT A` are a common input of the two runs (DESIGN CHOICE, notes/assumptions/7.md). -/
def Obligations.ZeroPrefix1IsNeutral : Prop :=
  ∀ (i : Instr) (s : State), Context.start.extend i = none → s.ctx.prefix1 = none →
    let c := { s.ctx with prefix1 := some ⟨.none, .b8, false⟩ }
    Outcome.Agree (fun t u => u = { t with ctx := c }) (exec i s) (exec i { s with ctx := c })

/-- A call and then RTS with the same RS return to `PC_next` with the stack pointer restored, if the return address's bytes
have locations of their own (R171). -/
def Obligations.CallThenReturn : Prop :=
  ∀ f ∈ jsrForms ++ bsrForms, ∀ (op : Word) (s t : State), s.mem.wf = true → exec (f.make op) s = .next t →
    Apart s s.cur (s.pushAddr false s.retBytes) s.retBytes →
    ∀ (c : Context) (pc start opcodeAt : Word),
      let u : State := { t with ctx := c, pc := pc, start := start, opcodeAt := opcodeAt }
      Accepted .onlyRs u → c.rs = s.ctx.rs →
        ∃ w, exec .rts u = .next w ∧ w.pc = s.address s.pc.toNat
          ∧ value s.W (w.spCell false) = value s.W (s.spCell false)

/-- PHA and then PLA with the same RS and UM bring back the low `w` bits of A and the stack pointer, if the bytes pushed have
locations of their own (R54, R170). With LE=00 the bits above are those A has before PLA; else they extend the low `w` bits as
LE says, by default with zeros (R153, R165). -/
def Obligations.PushThenPull : Prop :=
  ∀ s t : State, s.mem.wf = true → exec .pha s = .next t →
    Apart s (s.envFor s.ctx.um) (s.pushAddr s.ctx.um s.n) s.n →
    ∀ (a : Word) (c : Context) (pc : Word),
      let u : State := { t with a := a, ctx := c, pc := pc }
      AcceptedData .nfRsUmLe u → c.rs = s.ctx.rs → c.um = s.ctx.um →
        ∃ w, exec .pla u = .next w ∧ value s.w w.a = value s.w s.a
          ∧ (if u.leEff .zero = .none then KeepsAbove u s.w a w.a else w.a = u.extend (u.leEff .zero) s.a)
          ∧ value s.W (w.spCell s.ctx.um) = value s.W (s.spCell s.ctx.um)
end

