-- ==== Sys2Proof/Laws/State.lean ====
section
/-! SUPPORT. What each update of the state leaves in each field, and which views of the state it does not change: one lemma
per field per update, so that no later proof unfolds a record update. -/

namespace Sys2Proof.Machine

/-! ### `setReg` -/

@[simp] theorem State.setReg_opts (s : State) (r : Reg) (v : Word) :
    (s.setReg r v).opts = s.opts := by cases r <;> rfl
@[simp] theorem State.setReg_sph (s : State) (r : Reg) (v : Word) :
    (s.setReg r v).sph = s.sph := by cases r <;> rfl
@[simp] theorem State.setReg_spu (s : State) (r : Reg) (v : Word) :
    (s.setReg r v).spu = s.spu := by cases r <;> rfl
@[simp] theorem State.setReg_br (s : State) (r : Reg) (v : Word) :
    (s.setReg r v).br = s.br := by cases r <;> rfl
@[simp] theorem State.setReg_e (s : State) (r : Reg) (v : Word) :
    (s.setReg r v).e = s.e := by cases r <;> rfl
@[simp] theorem State.setReg_pc (s : State) (r : Reg) (v : Word) :
    (s.setReg r v).pc = s.pc := by cases r <;> rfl
@[simp] theorem State.setReg_p (s : State) (r : Reg) (v : Word) :
    (s.setReg r v).p = s.p := by cases r <;> rfl
@[simp] theorem State.setReg_mode (s : State) (r : Reg) (v : Word) :
    (s.setReg r v).mode = s.mode := by cases r <;> rfl
@[simp] theorem State.setReg_mch (s : State) (r : Reg) (v : Word) :
    (s.setReg r v).mch = s.mch := by cases r <;> rfl
@[simp] theorem State.setReg_mcu (s : State) (r : Reg) (v : Word) :
    (s.setReg r v).mcu = s.mcu := by cases r <;> rfl
@[simp] theorem State.setReg_mem (s : State) (r : Reg) (v : Word) :
    (s.setReg r v).mem = s.mem := by cases r <;> rfl
@[simp] theorem State.setReg_ctx (s : State) (r : Reg) (v : Word) :
    (s.setReg r v).ctx = s.ctx := by cases r <;> rfl
@[simp] theorem State.setReg_start (s : State) (r : Reg) (v : Word) :
    (s.setReg r v).start = s.start := by cases r <;> rfl
@[simp] theorem State.setReg_opcodeAt (s : State) (r : Reg) (v : Word) :
    (s.setReg r v).opcodeAt = s.opcodeAt := by cases r <;> rfl
@[simp] theorem State.setReg_draws (s : State) (r : Reg) (v : Word) :
    (s.setReg r v).draws = s.draws := by cases r <;> rfl

@[simp] theorem State.setReg_a_a (s : State) (v : Word) : (s.setReg .a v).a = low s.W v := rfl
@[simp] theorem State.setReg_a_x (s : State) (v : Word) : (s.setReg .a v).x = s.x := rfl
@[simp] theorem State.setReg_a_y (s : State) (v : Word) : (s.setReg .a v).y = s.y := rfl
@[simp] theorem State.setReg_x_a (s : State) (v : Word) : (s.setReg .x v).a = s.a := rfl
@[simp] theorem State.setReg_x_x (s : State) (v : Word) : (s.setReg .x v).x = low s.W v := rfl
@[simp] theorem State.setReg_x_y (s : State) (v : Word) : (s.setReg .x v).y = s.y := rfl
@[simp] theorem State.setReg_y_a (s : State) (v : Word) : (s.setReg .y v).a = s.a := rfl
@[simp] theorem State.setReg_y_x (s : State) (v : Word) : (s.setReg .y v).x = s.x := rfl
@[simp] theorem State.setReg_y_y (s : State) (v : Word) : (s.setReg .y v).y = low s.W v := rfl

/-! ### `setSp` -/

@[simp] theorem State.setSp_opts (s : State) (um : Bool) (v : Word) :
    (s.setSp um v).opts = s.opts := by unfold State.setSp; split <;> rfl
@[simp] theorem State.setSp_a (s : State) (um : Bool) (v : Word) :
    (s.setSp um v).a = s.a := by unfold State.setSp; split <;> rfl
@[simp] theorem State.setSp_x (s : State) (um : Bool) (v : Word) :
    (s.setSp um v).x = s.x := by unfold State.setSp; split <;> rfl
@[simp] theorem State.setSp_y (s : State) (um : Bool) (v : Word) :
    (s.setSp um v).y = s.y := by unfold State.setSp; split <;> rfl
@[simp] theorem State.setSp_sph (s : State) (um : Bool) (v : Word) :
    (s.setSp um v).sph = if s.usesUserStack um then s.sph else low s.W v := by
  unfold State.setSp; split <;> rfl
@[simp] theorem State.setSp_spu (s : State) (um : Bool) (v : Word) :
    (s.setSp um v).spu = if s.usesUserStack um then low s.W v else s.spu := by
  unfold State.setSp; split <;> rfl
@[simp] theorem State.setSp_br (s : State) (um : Bool) (v : Word) :
    (s.setSp um v).br = s.br := by unfold State.setSp; split <;> rfl
@[simp] theorem State.setSp_e (s : State) (um : Bool) (v : Word) :
    (s.setSp um v).e = s.e := by unfold State.setSp; split <;> rfl
@[simp] theorem State.setSp_pc (s : State) (um : Bool) (v : Word) :
    (s.setSp um v).pc = s.pc := by unfold State.setSp; split <;> rfl
@[simp] theorem State.setSp_p (s : State) (um : Bool) (v : Word) :
    (s.setSp um v).p = s.p := by unfold State.setSp; split <;> rfl
@[simp] theorem State.setSp_mode (s : State) (um : Bool) (v : Word) :
    (s.setSp um v).mode = s.mode := by unfold State.setSp; split <;> rfl
@[simp] theorem State.setSp_mch (s : State) (um : Bool) (v : Word) :
    (s.setSp um v).mch = s.mch := by unfold State.setSp; split <;> rfl
@[simp] theorem State.setSp_mcu (s : State) (um : Bool) (v : Word) :
    (s.setSp um v).mcu = s.mcu := by unfold State.setSp; split <;> rfl
@[simp] theorem State.setSp_mem (s : State) (um : Bool) (v : Word) :
    (s.setSp um v).mem = s.mem := by unfold State.setSp; split <;> rfl
@[simp] theorem State.setSp_ctx (s : State) (um : Bool) (v : Word) :
    (s.setSp um v).ctx = s.ctx := by unfold State.setSp; split <;> rfl
@[simp] theorem State.setSp_start (s : State) (um : Bool) (v : Word) :
    (s.setSp um v).start = s.start := by unfold State.setSp; split <;> rfl
@[simp] theorem State.setSp_opcodeAt (s : State) (um : Bool) (v : Word) :
    (s.setSp um v).opcodeAt = s.opcodeAt := by unfold State.setSp; split <;> rfl
@[simp] theorem State.setSp_draws (s : State) (um : Bool) (v : Word) :
    (s.setSp um v).draws = s.draws := by unfold State.setSp; split <;> rfl

/-! ### `setPc` -/

@[simp] theorem State.setPc_opts (s : State) (v : Word) :
    (s.setPc v).opts = s.opts := rfl
@[simp] theorem State.setPc_a (s : State) (v : Word) :
    (s.setPc v).a = s.a := rfl
@[simp] theorem State.setPc_x (s : State) (v : Word) :
    (s.setPc v).x = s.x := rfl
@[simp] theorem State.setPc_y (s : State) (v : Word) :
    (s.setPc v).y = s.y := rfl
@[simp] theorem State.setPc_sph (s : State) (v : Word) :
    (s.setPc v).sph = s.sph := rfl
@[simp] theorem State.setPc_spu (s : State) (v : Word) :
    (s.setPc v).spu = s.spu := rfl
@[simp] theorem State.setPc_br (s : State) (v : Word) :
    (s.setPc v).br = s.br := rfl
@[simp] theorem State.setPc_e (s : State) (v : Word) :
    (s.setPc v).e = s.e := rfl
@[simp] theorem State.setPc_pc (s : State) (v : Word) :
    (s.setPc v).pc = s.addr v := rfl
@[simp] theorem State.setPc_p (s : State) (v : Word) :
    (s.setPc v).p = s.p := rfl
@[simp] theorem State.setPc_mode (s : State) (v : Word) :
    (s.setPc v).mode = s.mode := rfl
@[simp] theorem State.setPc_mch (s : State) (v : Word) :
    (s.setPc v).mch = s.mch := rfl
@[simp] theorem State.setPc_mcu (s : State) (v : Word) :
    (s.setPc v).mcu = s.mcu := rfl
@[simp] theorem State.setPc_mem (s : State) (v : Word) :
    (s.setPc v).mem = s.mem := rfl
@[simp] theorem State.setPc_ctx (s : State) (v : Word) :
    (s.setPc v).ctx = s.ctx := rfl
@[simp] theorem State.setPc_start (s : State) (v : Word) :
    (s.setPc v).start = s.start := rfl
@[simp] theorem State.setPc_opcodeAt (s : State) (v : Word) :
    (s.setPc v).opcodeAt = s.opcodeAt := rfl
@[simp] theorem State.setPc_draws (s : State) (v : Word) :
    (s.setPc v).draws = s.draws := rfl

/-! ### `setE` -/

@[simp] theorem State.setE_opts (s : State) (v : Word) :
    (s.setE v).opts = s.opts := rfl
@[simp] theorem State.setE_a (s : State) (v : Word) :
    (s.setE v).a = s.a := rfl
@[simp] theorem State.setE_x (s : State) (v : Word) :
    (s.setE v).x = s.x := rfl
@[simp] theorem State.setE_y (s : State) (v : Word) :
    (s.setE v).y = s.y := rfl
@[simp] theorem State.setE_sph (s : State) (v : Word) :
    (s.setE v).sph = s.sph := rfl
@[simp] theorem State.setE_spu (s : State) (v : Word) :
    (s.setE v).spu = s.spu := rfl
@[simp] theorem State.setE_br (s : State) (v : Word) :
    (s.setE v).br = s.br := rfl
@[simp] theorem State.setE_e (s : State) (v : Word) :
    (s.setE v).e = low s.W v := rfl
@[simp] theorem State.setE_pc (s : State) (v : Word) :
    (s.setE v).pc = s.pc := rfl
@[simp] theorem State.setE_p (s : State) (v : Word) :
    (s.setE v).p = s.p := rfl
@[simp] theorem State.setE_mode (s : State) (v : Word) :
    (s.setE v).mode = s.mode := rfl
@[simp] theorem State.setE_mch (s : State) (v : Word) :
    (s.setE v).mch = s.mch := rfl
@[simp] theorem State.setE_mcu (s : State) (v : Word) :
    (s.setE v).mcu = s.mcu := rfl
@[simp] theorem State.setE_mem (s : State) (v : Word) :
    (s.setE v).mem = s.mem := rfl
@[simp] theorem State.setE_ctx (s : State) (v : Word) :
    (s.setE v).ctx = s.ctx := rfl
@[simp] theorem State.setE_start (s : State) (v : Word) :
    (s.setE v).start = s.start := rfl
@[simp] theorem State.setE_opcodeAt (s : State) (v : Word) :
    (s.setE v).opcodeAt = s.opcodeAt := rfl
@[simp] theorem State.setE_draws (s : State) (v : Word) :
    (s.setE v).draws = s.draws := rfl

/-! ### `setFlags` -/

@[simp] theorem State.setFlags_opts (s : State) (q : Flags) :
    (s.setFlags q).opts = s.opts := rfl
@[simp] theorem State.setFlags_a (s : State) (q : Flags) :
    (s.setFlags q).a = s.a := rfl
@[simp] theorem State.setFlags_x (s : State) (q : Flags) :
    (s.setFlags q).x = s.x := rfl
@[simp] theorem State.setFlags_y (s : State) (q : Flags) :
    (s.setFlags q).y = s.y := rfl
@[simp] theorem State.setFlags_sph (s : State) (q : Flags) :
    (s.setFlags q).sph = s.sph := rfl
@[simp] theorem State.setFlags_spu (s : State) (q : Flags) :
    (s.setFlags q).spu = s.spu := rfl
@[simp] theorem State.setFlags_br (s : State) (q : Flags) :
    (s.setFlags q).br = s.br := rfl
@[simp] theorem State.setFlags_e (s : State) (q : Flags) :
    (s.setFlags q).e = s.e := rfl
@[simp] theorem State.setFlags_pc (s : State) (q : Flags) :
    (s.setFlags q).pc = s.pc := rfl
@[simp] theorem State.setFlags_p (s : State) (q : Flags) :
    (s.setFlags q).p = q := rfl
@[simp] theorem State.setFlags_mode (s : State) (q : Flags) :
    (s.setFlags q).mode = s.mode := rfl
@[simp] theorem State.setFlags_mch (s : State) (q : Flags) :
    (s.setFlags q).mch = s.mch := rfl
@[simp] theorem State.setFlags_mcu (s : State) (q : Flags) :
    (s.setFlags q).mcu = s.mcu := rfl
@[simp] theorem State.setFlags_mem (s : State) (q : Flags) :
    (s.setFlags q).mem = s.mem := rfl
@[simp] theorem State.setFlags_ctx (s : State) (q : Flags) :
    (s.setFlags q).ctx = s.ctx := rfl
@[simp] theorem State.setFlags_start (s : State) (q : Flags) :
    (s.setFlags q).start = s.start := rfl
@[simp] theorem State.setFlags_opcodeAt (s : State) (q : Flags) :
    (s.setFlags q).opcodeAt = s.opcodeAt := rfl
@[simp] theorem State.setFlags_draws (s : State) (q : Flags) :
    (s.setFlags q).draws = s.draws := rfl

/-! ### `updateFlags` -/

@[simp] theorem State.updateFlags_opts (s : State) (q : Flags) :
    (s.updateFlags q).opts = s.opts := by unfold State.updateFlags; split <;> rfl
@[simp] theorem State.updateFlags_a (s : State) (q : Flags) :
    (s.updateFlags q).a = s.a := by unfold State.updateFlags; split <;> rfl
@[simp] theorem State.updateFlags_x (s : State) (q : Flags) :
    (s.updateFlags q).x = s.x := by unfold State.updateFlags; split <;> rfl
@[simp] theorem State.updateFlags_y (s : State) (q : Flags) :
    (s.updateFlags q).y = s.y := by unfold State.updateFlags; split <;> rfl
@[simp] theorem State.updateFlags_sph (s : State) (q : Flags) :
    (s.updateFlags q).sph = s.sph := by unfold State.updateFlags; split <;> rfl
@[simp] theorem State.updateFlags_spu (s : State) (q : Flags) :
    (s.updateFlags q).spu = s.spu := by unfold State.updateFlags; split <;> rfl
@[simp] theorem State.updateFlags_br (s : State) (q : Flags) :
    (s.updateFlags q).br = s.br := by unfold State.updateFlags; split <;> rfl
@[simp] theorem State.updateFlags_e (s : State) (q : Flags) :
    (s.updateFlags q).e = s.e := by unfold State.updateFlags; split <;> rfl
@[simp] theorem State.updateFlags_pc (s : State) (q : Flags) :
    (s.updateFlags q).pc = s.pc := by unfold State.updateFlags; split <;> rfl
@[simp] theorem State.updateFlags_p (s : State) (q : Flags) :
    (s.updateFlags q).p = if s.ctx.nf then s.p else q := by
  unfold State.updateFlags; split <;> rfl
@[simp] theorem State.updateFlags_mode (s : State) (q : Flags) :
    (s.updateFlags q).mode = s.mode := by unfold State.updateFlags; split <;> rfl
@[simp] theorem State.updateFlags_mch (s : State) (q : Flags) :
    (s.updateFlags q).mch = s.mch := by unfold State.updateFlags; split <;> rfl
@[simp] theorem State.updateFlags_mcu (s : State) (q : Flags) :
    (s.updateFlags q).mcu = s.mcu := by unfold State.updateFlags; split <;> rfl
@[simp] theorem State.updateFlags_mem (s : State) (q : Flags) :
    (s.updateFlags q).mem = s.mem := by unfold State.updateFlags; split <;> rfl
@[simp] theorem State.updateFlags_ctx (s : State) (q : Flags) :
    (s.updateFlags q).ctx = s.ctx := by unfold State.updateFlags; split <;> rfl
@[simp] theorem State.updateFlags_start (s : State) (q : Flags) :
    (s.updateFlags q).start = s.start := by unfold State.updateFlags; split <;> rfl
@[simp] theorem State.updateFlags_opcodeAt (s : State) (q : Flags) :
    (s.updateFlags q).opcodeAt = s.opcodeAt := by unfold State.updateFlags; split <;> rfl
@[simp] theorem State.updateFlags_draws (s : State) (q : Flags) :
    (s.updateFlags q).draws = s.draws := by unfold State.updateFlags; split <;> rfl

/-! ### `drawn` -/

@[simp] theorem State.drawn_opts (s : State) (k : Nat) :
    (s.drawn k).opts = s.opts := rfl
@[simp] theorem State.drawn_a (s : State) (k : Nat) :
    (s.drawn k).a = s.a := rfl
@[simp] theorem State.drawn_x (s : State) (k : Nat) :
    (s.drawn k).x = s.x := rfl
@[simp] theorem State.drawn_y (s : State) (k : Nat) :
    (s.drawn k).y = s.y := rfl
@[simp] theorem State.drawn_sph (s : State) (k : Nat) :
    (s.drawn k).sph = s.sph := rfl
@[simp] theorem State.drawn_spu (s : State) (k : Nat) :
    (s.drawn k).spu = s.spu := rfl
@[simp] theorem State.drawn_br (s : State) (k : Nat) :
    (s.drawn k).br = s.br := rfl
@[simp] theorem State.drawn_e (s : State) (k : Nat) :
    (s.drawn k).e = s.e := rfl
@[simp] theorem State.drawn_pc (s : State) (k : Nat) :
    (s.drawn k).pc = s.pc := rfl
@[simp] theorem State.drawn_p (s : State) (k : Nat) :
    (s.drawn k).p = s.p := rfl
@[simp] theorem State.drawn_mode (s : State) (k : Nat) :
    (s.drawn k).mode = s.mode := rfl
@[simp] theorem State.drawn_mch (s : State) (k : Nat) :
    (s.drawn k).mch = s.mch := rfl
@[simp] theorem State.drawn_mcu (s : State) (k : Nat) :
    (s.drawn k).mcu = s.mcu := rfl
@[simp] theorem State.drawn_mem (s : State) (k : Nat) :
    (s.drawn k).mem = s.mem := rfl
@[simp] theorem State.drawn_ctx (s : State) (k : Nat) :
    (s.drawn k).ctx = s.ctx := rfl
@[simp] theorem State.drawn_start (s : State) (k : Nat) :
    (s.drawn k).start = s.start := rfl
@[simp] theorem State.drawn_opcodeAt (s : State) (k : Nat) :
    (s.drawn k).opcodeAt = s.opcodeAt := rfl
@[simp] theorem State.drawn_draws (s : State) (k : Nat) :
    (s.drawn k).draws = s.draws + k := rfl

/-! ### `setByte` -/

@[simp] theorem State.setByte_opts (s : State) (env : Mode) (b : Word) (v : Byte) :
    (s.setByte env b v).opts = s.opts := rfl
@[simp] theorem State.setByte_a (s : State) (env : Mode) (b : Word) (v : Byte) :
    (s.setByte env b v).a = s.a := rfl
@[simp] theorem State.setByte_x (s : State) (env : Mode) (b : Word) (v : Byte) :
    (s.setByte env b v).x = s.x := rfl
@[simp] theorem State.setByte_y (s : State) (env : Mode) (b : Word) (v : Byte) :
    (s.setByte env b v).y = s.y := rfl
@[simp] theorem State.setByte_sph (s : State) (env : Mode) (b : Word) (v : Byte) :
    (s.setByte env b v).sph = s.sph := rfl
@[simp] theorem State.setByte_spu (s : State) (env : Mode) (b : Word) (v : Byte) :
    (s.setByte env b v).spu = s.spu := rfl
@[simp] theorem State.setByte_br (s : State) (env : Mode) (b : Word) (v : Byte) :
    (s.setByte env b v).br = s.br := rfl
@[simp] theorem State.setByte_e (s : State) (env : Mode) (b : Word) (v : Byte) :
    (s.setByte env b v).e = s.e := rfl
@[simp] theorem State.setByte_pc (s : State) (env : Mode) (b : Word) (v : Byte) :
    (s.setByte env b v).pc = s.pc := rfl
@[simp] theorem State.setByte_p (s : State) (env : Mode) (b : Word) (v : Byte) :
    (s.setByte env b v).p = s.p := rfl
@[simp] theorem State.setByte_mode (s : State) (env : Mode) (b : Word) (v : Byte) :
    (s.setByte env b v).mode = s.mode := rfl
@[simp] theorem State.setByte_mch (s : State) (env : Mode) (b : Word) (v : Byte) :
    (s.setByte env b v).mch = s.mch := rfl
@[simp] theorem State.setByte_mcu (s : State) (env : Mode) (b : Word) (v : Byte) :
    (s.setByte env b v).mcu = s.mcu := rfl
@[simp] theorem State.setByte_mem (s : State) (env : Mode) (b : Word) (v : Byte) :
    (s.setByte env b v).mem = s.mem.write (s.locate env b) v := rfl
@[simp] theorem State.setByte_ctx (s : State) (env : Mode) (b : Word) (v : Byte) :
    (s.setByte env b v).ctx = s.ctx := rfl
@[simp] theorem State.setByte_start (s : State) (env : Mode) (b : Word) (v : Byte) :
    (s.setByte env b v).start = s.start := rfl
@[simp] theorem State.setByte_opcodeAt (s : State) (env : Mode) (b : Word) (v : Byte) :
    (s.setByte env b v).opcodeAt = s.opcodeAt := rfl
@[simp] theorem State.setByte_draws (s : State) (env : Mode) (b : Word) (v : Byte) :
    (s.setByte env b v).draws = s.draws := rfl

/-! ### `memWrite` -/

@[simp] theorem State.memWrite_opts (s : State) (env : Mode) (b : Word) (n : Nat) (v : Word) :
    (s.memWrite env b n v).opts = s.opts := by
  induction n generalizing s b v with
  | zero => rfl
  | succ n ih => simp [State.memWrite, ih]
@[simp] theorem State.memWrite_a (s : State) (env : Mode) (b : Word) (n : Nat) (v : Word) :
    (s.memWrite env b n v).a = s.a := by
  induction n generalizing s b v with
  | zero => rfl
  | succ n ih => simp [State.memWrite, ih]
@[simp] theorem State.memWrite_x (s : State) (env : Mode) (b : Word) (n : Nat) (v : Word) :
    (s.memWrite env b n v).x = s.x := by
  induction n generalizing s b v with
  | zero => rfl
  | succ n ih => simp [State.memWrite, ih]
@[simp] theorem State.memWrite_y (s : State) (env : Mode) (b : Word) (n : Nat) (v : Word) :
    (s.memWrite env b n v).y = s.y := by
  induction n generalizing s b v with
  | zero => rfl
  | succ n ih => simp [State.memWrite, ih]
@[simp] theorem State.memWrite_sph (s : State) (env : Mode) (b : Word) (n : Nat) (v : Word) :
    (s.memWrite env b n v).sph = s.sph := by
  induction n generalizing s b v with
  | zero => rfl
  | succ n ih => simp [State.memWrite, ih]
@[simp] theorem State.memWrite_spu (s : State) (env : Mode) (b : Word) (n : Nat) (v : Word) :
    (s.memWrite env b n v).spu = s.spu := by
  induction n generalizing s b v with
  | zero => rfl
  | succ n ih => simp [State.memWrite, ih]
@[simp] theorem State.memWrite_br (s : State) (env : Mode) (b : Word) (n : Nat) (v : Word) :
    (s.memWrite env b n v).br = s.br := by
  induction n generalizing s b v with
  | zero => rfl
  | succ n ih => simp [State.memWrite, ih]
@[simp] theorem State.memWrite_e (s : State) (env : Mode) (b : Word) (n : Nat) (v : Word) :
    (s.memWrite env b n v).e = s.e := by
  induction n generalizing s b v with
  | zero => rfl
  | succ n ih => simp [State.memWrite, ih]
@[simp] theorem State.memWrite_pc (s : State) (env : Mode) (b : Word) (n : Nat) (v : Word) :
    (s.memWrite env b n v).pc = s.pc := by
  induction n generalizing s b v with
  | zero => rfl
  | succ n ih => simp [State.memWrite, ih]
@[simp] theorem State.memWrite_p (s : State) (env : Mode) (b : Word) (n : Nat) (v : Word) :
    (s.memWrite env b n v).p = s.p := by
  induction n generalizing s b v with
  | zero => rfl
  | succ n ih => simp [State.memWrite, ih]
@[simp] theorem State.memWrite_mode (s : State) (env : Mode) (b : Word) (n : Nat) (v : Word) :
    (s.memWrite env b n v).mode = s.mode := by
  induction n generalizing s b v with
  | zero => rfl
  | succ n ih => simp [State.memWrite, ih]
@[simp] theorem State.memWrite_mch (s : State) (env : Mode) (b : Word) (n : Nat) (v : Word) :
    (s.memWrite env b n v).mch = s.mch := by
  induction n generalizing s b v with
  | zero => rfl
  | succ n ih => simp [State.memWrite, ih]
@[simp] theorem State.memWrite_mcu (s : State) (env : Mode) (b : Word) (n : Nat) (v : Word) :
    (s.memWrite env b n v).mcu = s.mcu := by
  induction n generalizing s b v with
  | zero => rfl
  | succ n ih => simp [State.memWrite, ih]
@[simp] theorem State.memWrite_ctx (s : State) (env : Mode) (b : Word) (n : Nat) (v : Word) :
    (s.memWrite env b n v).ctx = s.ctx := by
  induction n generalizing s b v with
  | zero => rfl
  | succ n ih => simp [State.memWrite, ih]
@[simp] theorem State.memWrite_start (s : State) (env : Mode) (b : Word) (n : Nat) (v : Word) :
    (s.memWrite env b n v).start = s.start := by
  induction n generalizing s b v with
  | zero => rfl
  | succ n ih => simp [State.memWrite, ih]
@[simp] theorem State.memWrite_opcodeAt (s : State) (env : Mode) (b : Word) (n : Nat) (v : Word) :
    (s.memWrite env b n v).opcodeAt = s.opcodeAt := by
  induction n generalizing s b v with
  | zero => rfl
  | succ n ih => simp [State.memWrite, ih]
@[simp] theorem State.memWrite_draws (s : State) (env : Mode) (b : Word) (n : Nat) (v : Word) :
    (s.memWrite env b n v).draws = s.draws := by
  induction n generalizing s b v with
  | zero => rfl
  | succ n ih => simp [State.memWrite, ih]

/-! ### `storeBytes` -/

@[simp] theorem State.storeBytes_opts (s : State) (env : Mode) (b : Word) (bs : List Byte) :
    (s.storeBytes env b bs).opts = s.opts := by
  induction bs generalizing s b with
  | nil => rfl
  | cons c bs ih => simp [State.storeBytes, ih]
@[simp] theorem State.storeBytes_a (s : State) (env : Mode) (b : Word) (bs : List Byte) :
    (s.storeBytes env b bs).a = s.a := by
  induction bs generalizing s b with
  | nil => rfl
  | cons c bs ih => simp [State.storeBytes, ih]
@[simp] theorem State.storeBytes_x (s : State) (env : Mode) (b : Word) (bs : List Byte) :
    (s.storeBytes env b bs).x = s.x := by
  induction bs generalizing s b with
  | nil => rfl
  | cons c bs ih => simp [State.storeBytes, ih]
@[simp] theorem State.storeBytes_y (s : State) (env : Mode) (b : Word) (bs : List Byte) :
    (s.storeBytes env b bs).y = s.y := by
  induction bs generalizing s b with
  | nil => rfl
  | cons c bs ih => simp [State.storeBytes, ih]
@[simp] theorem State.storeBytes_sph (s : State) (env : Mode) (b : Word) (bs : List Byte) :
    (s.storeBytes env b bs).sph = s.sph := by
  induction bs generalizing s b with
  | nil => rfl
  | cons c bs ih => simp [State.storeBytes, ih]
@[simp] theorem State.storeBytes_spu (s : State) (env : Mode) (b : Word) (bs : List Byte) :
    (s.storeBytes env b bs).spu = s.spu := by
  induction bs generalizing s b with
  | nil => rfl
  | cons c bs ih => simp [State.storeBytes, ih]
@[simp] theorem State.storeBytes_br (s : State) (env : Mode) (b : Word) (bs : List Byte) :
    (s.storeBytes env b bs).br = s.br := by
  induction bs generalizing s b with
  | nil => rfl
  | cons c bs ih => simp [State.storeBytes, ih]
@[simp] theorem State.storeBytes_e (s : State) (env : Mode) (b : Word) (bs : List Byte) :
    (s.storeBytes env b bs).e = s.e := by
  induction bs generalizing s b with
  | nil => rfl
  | cons c bs ih => simp [State.storeBytes, ih]
@[simp] theorem State.storeBytes_pc (s : State) (env : Mode) (b : Word) (bs : List Byte) :
    (s.storeBytes env b bs).pc = s.pc := by
  induction bs generalizing s b with
  | nil => rfl
  | cons c bs ih => simp [State.storeBytes, ih]
@[simp] theorem State.storeBytes_p (s : State) (env : Mode) (b : Word) (bs : List Byte) :
    (s.storeBytes env b bs).p = s.p := by
  induction bs generalizing s b with
  | nil => rfl
  | cons c bs ih => simp [State.storeBytes, ih]
@[simp] theorem State.storeBytes_mode (s : State) (env : Mode) (b : Word) (bs : List Byte) :
    (s.storeBytes env b bs).mode = s.mode := by
  induction bs generalizing s b with
  | nil => rfl
  | cons c bs ih => simp [State.storeBytes, ih]
@[simp] theorem State.storeBytes_mch (s : State) (env : Mode) (b : Word) (bs : List Byte) :
    (s.storeBytes env b bs).mch = s.mch := by
  induction bs generalizing s b with
  | nil => rfl
  | cons c bs ih => simp [State.storeBytes, ih]
@[simp] theorem State.storeBytes_mcu (s : State) (env : Mode) (b : Word) (bs : List Byte) :
    (s.storeBytes env b bs).mcu = s.mcu := by
  induction bs generalizing s b with
  | nil => rfl
  | cons c bs ih => simp [State.storeBytes, ih]
@[simp] theorem State.storeBytes_ctx (s : State) (env : Mode) (b : Word) (bs : List Byte) :
    (s.storeBytes env b bs).ctx = s.ctx := by
  induction bs generalizing s b with
  | nil => rfl
  | cons c bs ih => simp [State.storeBytes, ih]
@[simp] theorem State.storeBytes_start (s : State) (env : Mode) (b : Word) (bs : List Byte) :
    (s.storeBytes env b bs).start = s.start := by
  induction bs generalizing s b with
  | nil => rfl
  | cons c bs ih => simp [State.storeBytes, ih]
@[simp] theorem State.storeBytes_opcodeAt (s : State) (env : Mode) (b : Word) (bs : List Byte) :
    (s.storeBytes env b bs).opcodeAt = s.opcodeAt := by
  induction bs generalizing s b with
  | nil => rfl
  | cons c bs ih => simp [State.storeBytes, ih]
@[simp] theorem State.storeBytes_draws (s : State) (env : Mode) (b : Word) (bs : List Byte) :
    (s.storeBytes env b bs).draws = s.draws := by
  induction bs generalizing s b with
  | nil => rfl
  | cons c bs ih => simp [State.storeBytes, ih]

/-! ### `push` -/

@[simp] theorem State.push_opts (s : State) (um : Bool) (k : Nat) (v : Word) :
    (s.push um k v).opts = s.opts := by simp [State.push]
@[simp] theorem State.push_a (s : State) (um : Bool) (k : Nat) (v : Word) :
    (s.push um k v).a = s.a := by simp [State.push]
@[simp] theorem State.push_x (s : State) (um : Bool) (k : Nat) (v : Word) :
    (s.push um k v).x = s.x := by simp [State.push]
@[simp] theorem State.push_y (s : State) (um : Bool) (k : Nat) (v : Word) :
    (s.push um k v).y = s.y := by simp [State.push]
@[simp] theorem State.push_br (s : State) (um : Bool) (k : Nat) (v : Word) :
    (s.push um k v).br = s.br := by simp [State.push]
@[simp] theorem State.push_e (s : State) (um : Bool) (k : Nat) (v : Word) :
    (s.push um k v).e = s.e := by simp [State.push]
@[simp] theorem State.push_pc (s : State) (um : Bool) (k : Nat) (v : Word) :
    (s.push um k v).pc = s.pc := by simp [State.push]
@[simp] theorem State.push_p (s : State) (um : Bool) (k : Nat) (v : Word) :
    (s.push um k v).p = s.p := by simp [State.push]
@[simp] theorem State.push_mode (s : State) (um : Bool) (k : Nat) (v : Word) :
    (s.push um k v).mode = s.mode := by simp [State.push]
@[simp] theorem State.push_mch (s : State) (um : Bool) (k : Nat) (v : Word) :
    (s.push um k v).mch = s.mch := by simp [State.push]
@[simp] theorem State.push_mcu (s : State) (um : Bool) (k : Nat) (v : Word) :
    (s.push um k v).mcu = s.mcu := by simp [State.push]
@[simp] theorem State.push_mem (s : State) (um : Bool) (k : Nat) (v : Word) :
    (s.push um k v).mem = (s.memWrite (s.envFor um) (s.pushAddr um k) k v).mem := by
  simp [State.push]
@[simp] theorem State.push_ctx (s : State) (um : Bool) (k : Nat) (v : Word) :
    (s.push um k v).ctx = s.ctx := by simp [State.push]
@[simp] theorem State.push_start (s : State) (um : Bool) (k : Nat) (v : Word) :
    (s.push um k v).start = s.start := by simp [State.push]
@[simp] theorem State.push_opcodeAt (s : State) (um : Bool) (k : Nat) (v : Word) :
    (s.push um k v).opcodeAt = s.opcodeAt := by simp [State.push]
@[simp] theorem State.push_draws (s : State) (um : Bool) (k : Nat) (v : Word) :
    (s.push um k v).draws = s.draws := by simp [State.push]

/-! ### `afterPull` -/

@[simp] theorem State.afterPull_opts (s : State) (um : Bool) (k : Nat) :
    (s.afterPull um k).opts = s.opts := by simp [State.afterPull]
@[simp] theorem State.afterPull_a (s : State) (um : Bool) (k : Nat) :
    (s.afterPull um k).a = s.a := by simp [State.afterPull]
@[simp] theorem State.afterPull_x (s : State) (um : Bool) (k : Nat) :
    (s.afterPull um k).x = s.x := by simp [State.afterPull]
@[simp] theorem State.afterPull_y (s : State) (um : Bool) (k : Nat) :
    (s.afterPull um k).y = s.y := by simp [State.afterPull]
@[simp] theorem State.afterPull_br (s : State) (um : Bool) (k : Nat) :
    (s.afterPull um k).br = s.br := by simp [State.afterPull]
@[simp] theorem State.afterPull_e (s : State) (um : Bool) (k : Nat) :
    (s.afterPull um k).e = s.e := by simp [State.afterPull]
@[simp] theorem State.afterPull_pc (s : State) (um : Bool) (k : Nat) :
    (s.afterPull um k).pc = s.pc := by simp [State.afterPull]
@[simp] theorem State.afterPull_p (s : State) (um : Bool) (k : Nat) :
    (s.afterPull um k).p = s.p := by simp [State.afterPull]
@[simp] theorem State.afterPull_mode (s : State) (um : Bool) (k : Nat) :
    (s.afterPull um k).mode = s.mode := by simp [State.afterPull]
@[simp] theorem State.afterPull_mch (s : State) (um : Bool) (k : Nat) :
    (s.afterPull um k).mch = s.mch := by simp [State.afterPull]
@[simp] theorem State.afterPull_mcu (s : State) (um : Bool) (k : Nat) :
    (s.afterPull um k).mcu = s.mcu := by simp [State.afterPull]
@[simp] theorem State.afterPull_mem (s : State) (um : Bool) (k : Nat) :
    (s.afterPull um k).mem = s.mem := by simp [State.afterPull]
@[simp] theorem State.afterPull_ctx (s : State) (um : Bool) (k : Nat) :
    (s.afterPull um k).ctx = s.ctx := by simp [State.afterPull]
@[simp] theorem State.afterPull_start (s : State) (um : Bool) (k : Nat) :
    (s.afterPull um k).start = s.start := by simp [State.afterPull]
@[simp] theorem State.afterPull_opcodeAt (s : State) (um : Bool) (k : Nat) :
    (s.afterPull um k).opcodeAt = s.opcodeAt := by simp [State.afterPull]
@[simp] theorem State.afterPull_draws (s : State) (um : Bool) (k : Nat) :
    (s.afterPull um k).draws = s.draws := by simp [State.afterPull]

/-! ### `fetched` -/

@[simp] theorem State.fetched_opts (s : State) (k : Nat) :
    (s.fetched k).opts = s.opts := rfl
@[simp] theorem State.fetched_a (s : State) (k : Nat) :
    (s.fetched k).a = s.a := rfl
@[simp] theorem State.fetched_x (s : State) (k : Nat) :
    (s.fetched k).x = s.x := rfl
@[simp] theorem State.fetched_y (s : State) (k : Nat) :
    (s.fetched k).y = s.y := rfl
@[simp] theorem State.fetched_sph (s : State) (k : Nat) :
    (s.fetched k).sph = s.sph := rfl
@[simp] theorem State.fetched_spu (s : State) (k : Nat) :
    (s.fetched k).spu = s.spu := rfl
@[simp] theorem State.fetched_br (s : State) (k : Nat) :
    (s.fetched k).br = s.br := rfl
@[simp] theorem State.fetched_e (s : State) (k : Nat) :
    (s.fetched k).e = s.e := rfl
@[simp] theorem State.fetched_pc (s : State) (k : Nat) :
    (s.fetched k).pc = s.addr (s.pc + BitVec.ofNat 64 k) := rfl
@[simp] theorem State.fetched_p (s : State) (k : Nat) :
    (s.fetched k).p = s.p := rfl
@[simp] theorem State.fetched_mode (s : State) (k : Nat) :
    (s.fetched k).mode = s.mode := rfl
@[simp] theorem State.fetched_mch (s : State) (k : Nat) :
    (s.fetched k).mch = s.mch := rfl
@[simp] theorem State.fetched_mcu (s : State) (k : Nat) :
    (s.fetched k).mcu = s.mcu := rfl
@[simp] theorem State.fetched_mem (s : State) (k : Nat) :
    (s.fetched k).mem = s.mem := rfl
@[simp] theorem State.fetched_ctx (s : State) (k : Nat) :
    (s.fetched k).ctx = s.ctx := rfl
@[simp] theorem State.fetched_start (s : State) (k : Nat) :
    (s.fetched k).start = s.start := rfl
@[simp] theorem State.fetched_opcodeAt (s : State) (k : Nat) :
    (s.fetched k).opcodeAt = s.pc := rfl
@[simp] theorem State.fetched_draws (s : State) (k : Nat) :
    (s.fetched k).draws = s.draws := rfl

/-! ### `beginInstr` -/

@[simp] theorem State.beginInstr_opts (s : State) :
    (s.beginInstr).opts = s.opts := rfl
@[simp] theorem State.beginInstr_a (s : State) :
    (s.beginInstr).a = s.a := rfl
@[simp] theorem State.beginInstr_x (s : State) :
    (s.beginInstr).x = s.x := rfl
@[simp] theorem State.beginInstr_y (s : State) :
    (s.beginInstr).y = s.y := rfl
@[simp] theorem State.beginInstr_sph (s : State) :
    (s.beginInstr).sph = s.sph := rfl
@[simp] theorem State.beginInstr_spu (s : State) :
    (s.beginInstr).spu = s.spu := rfl
@[simp] theorem State.beginInstr_br (s : State) :
    (s.beginInstr).br = s.br := rfl
@[simp] theorem State.beginInstr_e (s : State) :
    (s.beginInstr).e = s.e := rfl
@[simp] theorem State.beginInstr_pc (s : State) :
    (s.beginInstr).pc = s.addr s.pc := rfl
@[simp] theorem State.beginInstr_p (s : State) :
    (s.beginInstr).p = s.p := rfl
@[simp] theorem State.beginInstr_mode (s : State) :
    (s.beginInstr).mode = s.mode := rfl
@[simp] theorem State.beginInstr_mch (s : State) :
    (s.beginInstr).mch = s.mch := rfl
@[simp] theorem State.beginInstr_mcu (s : State) :
    (s.beginInstr).mcu = s.mcu := rfl
@[simp] theorem State.beginInstr_mem (s : State) :
    (s.beginInstr).mem = s.mem := rfl
@[simp] theorem State.beginInstr_ctx (s : State) :
    (s.beginInstr).ctx = .start := rfl
@[simp] theorem State.beginInstr_start (s : State) :
    (s.beginInstr).start = s.addr s.pc := rfl
@[simp] theorem State.beginInstr_opcodeAt (s : State) :
    (s.beginInstr).opcodeAt = s.opcodeAt := rfl
@[simp] theorem State.beginInstr_draws (s : State) :
    (s.beginInstr).draws = s.draws := rfl

/-! ### `endInstr` -/

@[simp] theorem State.endInstr_opts (s : State) :
    (s.endInstr).opts = s.opts := rfl
@[simp] theorem State.endInstr_a (s : State) :
    (s.endInstr).a = s.a := rfl
@[simp] theorem State.endInstr_x (s : State) :
    (s.endInstr).x = s.x := rfl
@[simp] theorem State.endInstr_y (s : State) :
    (s.endInstr).y = s.y := rfl
@[simp] theorem State.endInstr_sph (s : State) :
    (s.endInstr).sph = s.sph := rfl
@[simp] theorem State.endInstr_spu (s : State) :
    (s.endInstr).spu = s.spu := rfl
@[simp] theorem State.endInstr_br (s : State) :
    (s.endInstr).br = s.br := rfl
@[simp] theorem State.endInstr_e (s : State) :
    (s.endInstr).e = s.e := rfl
@[simp] theorem State.endInstr_pc (s : State) :
    (s.endInstr).pc = s.pc := rfl
@[simp] theorem State.endInstr_p (s : State) :
    (s.endInstr).p = s.p := rfl
@[simp] theorem State.endInstr_mode (s : State) :
    (s.endInstr).mode = s.mode := rfl
@[simp] theorem State.endInstr_mch (s : State) :
    (s.endInstr).mch = s.mch := rfl
@[simp] theorem State.endInstr_mcu (s : State) :
    (s.endInstr).mcu = s.mcu := rfl
@[simp] theorem State.endInstr_mem (s : State) :
    (s.endInstr).mem = s.mem := rfl
@[simp] theorem State.endInstr_ctx (s : State) :
    (s.endInstr).ctx = .start := rfl
@[simp] theorem State.endInstr_start (s : State) :
    (s.endInstr).start = 0 := rfl
@[simp] theorem State.endInstr_opcodeAt (s : State) :
    (s.endInstr).opcodeAt = 0 := rfl
@[simp] theorem State.endInstr_draws (s : State) :
    (s.endInstr).draws = s.draws := rfl

/-! ### Views that depend on few fields -/

theorem State.W_congr {s t : State} (h : t.opts = s.opts) : t.W = s.W := by simp [State.W, h]
theorem State.AW_congr {s t : State} (h : t.opts = s.opts) : t.AW = s.AW := by simp [State.AW, h]
theorem State.addr_congr {s t : State} (h : t.opts = s.opts) (v : Word) : t.addr v = s.addr v := by
  simp [State.addr, State.AW_congr h]
theorem State.w_congr {s t : State} (h : t.ctx = s.ctx) : t.w = s.w := by simp [State.w, State.n, h]
theorem State.modeNow_congr {s t : State} (h : t.opts = s.opts) (hm : t.mode = s.mode) : t.modeNow = s.modeNow := by
  simp [State.modeNow, h, hm]
theorem State.envFor_congr {s t : State} (h : t.opts = s.opts) (hm : t.mode = s.mode) (um : Bool) :
    t.envFor um = s.envFor um := by
  simp [State.envFor, State.cur, State.modeNow_congr h hm]
theorem State.usesUserStack_congr {s t : State} (h : t.opts = s.opts) (hm : t.mode = s.mode) (um : Bool) :
    t.usesUserStack um = s.usesUserStack um := by
  simp [State.usesUserStack, State.modeNow_congr h hm]
theorem State.locate_congr {s t : State} (h : t.opts = s.opts) (hh : t.mch = s.mch) (hu : t.mcu = s.mcu) (env : Mode)
    (a : Word) : t.locate env a = s.locate env a := by
  cases env <;> simp [State.locate, State.matchcode, State.addr_congr h, hh, hu]

end Sys2Proof.Machine
end

