-- ==== Sys2Proof/Laws/Memory.lean ====
section
/-! SUPPORT. Memory: a read after a write, the canonical form, and what a write of several bytes can do. -/

namespace Sys2Proof.Machine

/-! ### The canonical form -/

/-- Every location listed lies above `k`. -/
def Memory.above (k : Nat) : Memory → Bool
  | [] => true
  | (j, _) :: _ => decide (k < j)

theorem Memory.wf_cons (k : Nat) (b : Byte) (m : Memory) :
    Memory.wf ((k, b) :: m) = (b != Memory.unlisted && Memory.above k m && Memory.wf m) := by
  cases m with
  | nil => simp [Memory.wf, Memory.above]
  | cons c m => simp [Memory.wf, Memory.above]

theorem Memory.above_trans {k j : Nat} {m : Memory} (h : k < j) (hm : Memory.above j m = true) :
    Memory.above k m = true := by
  cases m with
  | nil => rfl
  | cons c m => simp [Memory.above] at *; omega

theorem Memory.read_above {k : Nat} {m : Memory} (hk : Memory.above k m = true) (hm : m.wf = true) {a : Nat} (h : a ≤ k) :
    m.read a = Memory.unlisted := by
  induction m generalizing k with
  | nil => rfl
  | cons c m ih =>
    rw [Memory.wf_cons] at hm
    simp only [Bool.and_eq_true] at hm
    simp only [Memory.above, decide_eq_true_eq] at hk
    rw [Memory.read, if_neg (by omega)]
    exact ih hm.1.2 hm.2 (by omega)

theorem Memory.above_write {k : Nat} {m : Memory} {a : Nat} {b : Byte} (hk : Memory.above k m = true)
    (hm : m.wf = true) (h : k < a) : Memory.above k (m.write a b) = true := by
  cases m with
  | nil => unfold Memory.write; split <;> simp [Memory.above, h]
  | cons c m =>
    rw [Memory.wf_cons] at hm
    simp only [Bool.and_eq_true] at hm
    simp only [Memory.above, decide_eq_true_eq] at hk
    unfold Memory.write
    repeat' split
    all_goals first
      | exact Memory.above_trans (by omega) hm.1.2
      | simp [Memory.above]; omega

/-- A write keeps the canonical form. -/
theorem Memory.wf_write {m : Memory} (hm : m.wf = true) (a : Nat) (b : Byte) : (m.write a b).wf = true := by
  induction m with
  | nil => unfold Memory.write; split <;> simp_all [Memory.wf]
  | cons c m ih =>
    have hc := hm
    rw [Memory.wf_cons] at hc
    simp only [Bool.and_eq_true] at hc
    obtain ⟨⟨h1, h2⟩, h3⟩ := hc
    unfold Memory.write
    split
    · split
      · exact hm
      · rw [Memory.wf_cons, hm]; simp [Memory.above, *]
    · split
      · split
        · exact h3
        · subst a; rw [Memory.wf_cons, h2, h3]; simp [*]
      · rw [Memory.wf_cons, ih h3, Memory.above_write h2 h3 (by omega), h1]; rfl

/-- A location reads as the byte last written to it, and every other location as before. -/
theorem Memory.read_write {m : Memory} (hm : m.wf = true) (a : Nat) (b : Byte) (k : Nat) :
    (m.write a b).read k = if k = a then b else m.read k := by
  induction m with
  | nil =>
    unfold Memory.write
    split <;> split <;> simp_all [Memory.read]
  | cons c m ih =>
    have hc := hm
    rw [Memory.wf_cons] at hc
    simp only [Bool.and_eq_true] at hc
    obtain ⟨⟨h1, h2⟩, h3⟩ := hc
    have hr := fun (h : k ≤ c.1) => Memory.read_above h2 h3 h
    unfold Memory.write
    split
    · have hca : k = a → Memory.read (c :: m) k = Memory.unlisted := by
        intro h; rw [Memory.read, if_neg (by omega), hr (by omega)]
      split
      · split <;> simp_all
      · by_cases hka : k = a <;> simp [Memory.read, hka]
    · split
      · split
        · by_cases hka : k = a
          · rw [if_pos hka, hr (by omega)]; simp [*]
          · rw [if_neg hka, Memory.read, if_neg (by omega)]
        · by_cases hka : k = a
          · simp [Memory.read, hka]
          · rw [if_neg hka, Memory.read, Memory.read, if_neg hka, if_neg (by omega)]
      · rw [Memory.read, ih h3, Memory.read]
        by_cases hkc : k = c.1
        · rw [if_pos hkc, if_pos hkc, if_neg (by omega)]
        · rw [if_neg hkc, if_neg hkc]

theorem Memory.read_write_of_ne (m : Memory) {a k : Nat} (b : Byte) (h : k ≠ a) : (m.write a b).read k = m.read k := by
  induction m with
  | nil => unfold Memory.write; split <;> simp [Memory.read, h]
  | cons c m ih =>
    unfold Memory.write
    repeat' split
    all_goals first
      | rfl
      | simp [Memory.read, h]; done
      | (simp only [Memory.read, ih]; done)
      | (simp only [Memory.read]; repeat' split) <;> first | rfl | omega

theorem State.reset_mem_wf : State.reset.mem.wf = true := rfl

/-! ### Writes of several bytes -/

theorem State.memWrite_wf {s : State} (h : s.mem.wf = true) (env : Mode) (a : Word) (n : Nat) (v : Word) :
    (s.memWrite env a n v).mem.wf = true := by
  induction n generalizing s a v with
  | zero => exact h
  | succ n ih => exact ih (by simpa using Memory.wf_write h _ _) _ _

theorem State.storeBytes_wf {s : State} (h : s.mem.wf = true) (env : Mode) (a : Word) (bs : List Byte) :
    (s.storeBytes env a bs).mem.wf = true := by
  induction bs generalizing s a with
  | nil => exact h
  | cons b bs ih => exact ih (by simpa using Memory.wf_write h _ _) _

/-- A write of `n` bytes changes nothing but memory. -/
theorem State.memWrite_eq (s : State) (env : Mode) (a : Word) (n : Nat) (v : Word) :
    s.memWrite env a n v = { s with mem := (s.memWrite env a n v).mem } := by
  induction n generalizing s a v with
  | zero => rfl
  | succ n ih =>
    rw [State.memWrite, ih]
    rfl

/-- A write of `n` bytes leaves every location alone that none of its addresses names. -/
theorem State.memWrite_read_other (s : State) (env : Mode) (a : Word) (n : Nat) (v : Word) (k : Nat)
    (h : ∀ i < n, s.locate env (a + BitVec.ofNat 64 i) ≠ k) : (s.memWrite env a n v).mem.read k = s.mem.read k := by
  induction n generalizing s a v with
  | zero => rfl
  | succ n ih =>
    rw [State.memWrite, ih]
    · have h0 := h 0 (by omega)
      simp only [BitVec.add_zero] at h0
      exact Memory.read_write_of_ne _ _ (Ne.symm h0)
    · intro i hi
      have := h (i + 1) (by omega)
      rw [State.locate_congr (s := s) (by simp) (by simp) (by simp)]
      rwa [BitVec.add_assoc, show (1 : Word) + BitVec.ofNat 64 i = BitVec.ofNat 64 (i + 1) from by
        rw [Nat.add_comm, BitVec.ofNat_add]; rfl]

/-- In a memory in canonical form, each byte written is in place unless a later one shares its location. -/
theorem State.memWrite_read_byte {s : State} (hm : s.mem.wf = true) (env : Mode) (a : Word) (n : Nat) (v : Word) (i : Nat)
    (hi : i < n)
    (h : ∀ j < n, i < j → s.locate env (a + BitVec.ofNat 64 j) ≠ s.locate env (a + BitVec.ofNat 64 i)) :
    (s.memWrite env a n v).mem.read (s.locate env (a + BitVec.ofNat 64 i)) = (v >>> (8 * i)).setWidth 8 := by
  have step : ∀ (a : Word) (j : Nat), a + 1 + BitVec.ofNat 64 j = a + BitVec.ofNat 64 (j + 1) := fun a j => by
    rw [BitVec.add_assoc, Nat.add_comm, BitVec.ofNat_add]; rfl
  induction n generalizing s a v i with
  | zero => omega
  | succ n ih =>
    have hl : ∀ c, (s.setByte env a (v.setWidth 8)).locate env c = s.locate env c := fun c =>
      State.locate_congr (by simp) (by simp) (by simp) _ _
    rw [State.memWrite]
    cases i with
    | zero =>
      rw [State.memWrite_read_other]
      · simp [Memory.read_write hm]
      · intro j hj
        rw [hl, step]
        exact h (j + 1) (by omega) (by omega)
    | succ i =>
      have := ih (s := s.setByte env a (v.setWidth 8)) (by simpa using Memory.wf_write hm _ _) (a + 1) (v >>> 8) i
        (by omega) (by
          intro j hj hij
          rw [hl, hl, step, step]
          exact h (j + 1) (by omega) (by omega))
      rw [hl, step] at this
      rw [this, ← BitVec.shiftRight_add, Nat.mul_succ, Nat.add_comm]

end Sys2Proof.Machine
end

