-- ==== Sys2Proof/Laws/Ops.lean ====
section
/-! SUPPORT. What each shared operation can do, said once: outcomes, checks, bit fields, the stack. -/

namespace Sys2Proof.Machine

/-! ### Outcomes -/

/-- An instruction reaches a next state exactly when nothing stops it. -/
theorem complete_eq_next {st : Option Stop} {t u : State} : complete st t = .next u ↔ st = none ∧ t = u := by
  unfold complete
  split <;> simp

theorem complete_none (t : State) : complete none t = .next t := rfl

theorem refuseIf_eq_none {c : Bool} {r : Refusal} : refuseIf c r = none ↔ c = false := by
  cases c <;> simp [refuseIf]

theorem Stop.or_eq_none {a b : Option Stop} : a.or b = none ↔ a = none ∧ b = none := by
  cases a <;> simp

/-! ### Checks -/

theorem checkListed_eq_none {l : Listed} {s : State} : checkListed l s = none ↔ FieldsListed l s := by
  simp only [checkListed, Stop.or_eq_none, refuseIf_eq_none]
  constructor
  · rintro ⟨h1, h2, h3, h4, h5, h6, h7⟩
    refine ⟨?_, ?_, ?_, ?_, ?_, ?_, ?_⟩
    · simpa using h1
    · simpa using h2
    · simpa using h3
    · intro hr; simpa [hr] using h4
    · simpa using h5
    · simpa using h6
    · intro p hp hle; simpa [hp, hle] using h7
  · rintro ⟨h1, h2, h3, h4, h5, h6, h7⟩
    refine ⟨by simpa using h1, by simpa using h2, by simpa using h3, ?_, by simpa using h5, by simpa using h6, ?_⟩
    · cases h : s.ctx.am
      · cases hl : l.am <;> simp_all
      · simp
    · cases hp : s.ctx.prefix2 with
      | none => simp
      | some p => simpa using h7 p hp

theorem State.modeNow_eq_user {s : State} : s.modeNow = .user ↔ s.opts.hyp = false ∨ s.mode = .user := by
  unfold State.modeNow
  cases s.opts.hyp <;> simp

theorem checkUm_eq_none {s : State} : checkUm s = none ↔ UmAllowed s := by
  unfold checkUm UmAllowed State.modeNow
  cases s.ctx.um <;> cases s.opts.hyp <;> cases s.mode <;> simp

theorem checkWidth_eq_none {s : State} : checkWidth s = none ↔ s.w ≤ s.W := by
  simp [checkWidth, refuseIf_eq_none]

theorem checkPcrel_eq_none {s : State} : checkPcrel s = none ↔ PcrelKnown s := by
  unfold checkPcrel PcrelKnown
  rw [refuseIf_eq_none]
  cases s.opts.pcrelBase <;> simp

/-- `CheckPrefix` passes exactly the accepted states (R162). -/
theorem checkPrefix_eq_none {l : Listed} {s : State} : checkPrefix l s = none ↔ AcceptedData l s := by
  simp only [checkPrefix, Stop.or_eq_none, checkListed_eq_none, checkUm_eq_none, checkWidth_eq_none, checkPcrel_eq_none]
  exact ⟨fun ⟨a, b, c, d⟩ => ⟨⟨a, b, d⟩, c⟩, fun ⟨⟨a, b, d⟩, c⟩ => ⟨a, b, c, d⟩⟩

theorem checkPrefixNoWidth_eq_none {l : Listed} {s : State} : checkPrefixNoWidth l s = none ↔ Accepted l s := by
  simp only [checkPrefixNoWidth, Stop.or_eq_none, checkListed_eq_none, checkUm_eq_none, checkPcrel_eq_none]
  exact ⟨fun ⟨a, b, c⟩ => ⟨a, b, c⟩, fun ⟨a, b, c⟩ => ⟨a, b, c⟩⟩

theorem checkZeroPage_eq_none {mode : AddrMode} {op : Word} {s : State} :
    checkZeroPage mode op s = none ↔ InsidePageZero mode op s := by
  unfold checkZeroPage InsidePageZero
  rw [refuseIf_eq_none]
  cases isZeroPage mode <;> cases s.ctx.am <;> by_cases h : s.ctx.of = .none <;> simp [h]
  omega

theorem checkData_eq_none {l : Listed} {mode : AddrMode} {op : Word} {s : State} :
    checkData l mode op s = none ↔ DataReady l mode op s := by
  simp only [checkData, Stop.or_eq_none, checkPrefix_eq_none, checkZeroPage_eq_none]
  exact ⟨fun ⟨a, b⟩ => ⟨a, b⟩, fun ⟨a, b⟩ => ⟨a, b⟩⟩

theorem checkArith_eq_none {l : Listed} {mode : AddrMode} {op : Word} {s : State} :
    checkArith l mode op s = none ↔ DataReady l mode op s ∧ s.p.d = false := by
  simp only [checkArith, Stop.or_eq_none, checkPrefix_eq_none, refuseIf_eq_none, checkZeroPage_eq_none]
  exact ⟨fun ⟨a, b, c⟩ => ⟨⟨a, c⟩, b⟩, fun ⟨⟨a, c⟩, b⟩ => ⟨a, b, c⟩⟩

theorem checkReturn_eq_none {s : State} : checkReturn s = none ↔ ReturnReady s := by
  simp [checkReturn, refuseIf_eq_none, ReturnReady]

theorem checkLong_eq_none {mode : AddrMode} {s : State} : checkLong mode s = none ↔ (mode = .long → s.ctx.am = false) := by
  unfold checkLong
  rw [refuseIf_eq_none]
  by_cases h : mode = .long <;> cases s.ctx.am <;> simp [h]

/-! ### Bit fields -/

theorem getLsbD_low (k : Nat) (v : Word) (j : Nat) : (low k v).getLsbD j = (decide (j < k) && v.getLsbD j) := by
  simp only [low, BitVec.getLsbD_setWidth]
  by_cases h : j < 64
  · simp [h]
  · simp [BitVec.getLsbD_of_ge v j (by omega)]

theorem toNat_low (k : Nat) (v : Word) : (low k v).toNat = v.toNat % 2 ^ k := by
  simp only [low, BitVec.toNat_setWidth]
  exact Nat.mod_eq_of_lt (lt_of_le_of_lt (Nat.mod_le _ _) v.isLt)

@[simp] theorem low_low_self (k : Nat) (v : Word) : low k (low k v) = low k v := by
  apply BitVec.eq_of_toNat_eq
  simp [toNat_low]

theorem low_eq_self {k : Nat} {v : Word} : low k v = v ↔ v.toNat < 2 ^ k := by
  constructor
  · intro h
    rw [← h, toNat_low]
    exact Nat.mod_lt _ (by positivity)
  · intro h
    apply BitVec.eq_of_toNat_eq
    rw [toNat_low, Nat.mod_eq_of_lt h]

theorem getLsbD_setLow (k : Nat) (r v : Word) (j : Nat) :
    (setLow k r v).getLsbD j = if j < k then v.getLsbD j else r.getLsbD j := by
  simp only [setLow, BitVec.getLsbD_or, BitVec.getLsbD_and, BitVec.getLsbD_not, getLsbD_low, BitVec.getLsbD_allOnes]
  by_cases hj : j < 64
  · by_cases hk : j < k <;> simp [hj, hk]
  · simp [BitVec.getLsbD_of_ge v j (by omega), BitVec.getLsbD_of_ge r j (by omega)]

/-! ### Registers and the stack -/

theorem State.usesUserStack_iff {s : State} {um : Bool} :
    s.usesUserStack um = true ↔ um = true ∨ s.opts.hyp = false ∨ s.mode = .user := by
  simp [State.usesUserStack, State.modeNow_eq_user]

/-- Setting a register changes that register alone, to `W` bits. -/
theorem State.setReg_eq (s : State) (r : Reg) (v : Word) : s.setReg r v = s.withCell r (low s.W v) := by
  cases r <;> rfl

/-- Setting `SP(um)` changes that stack pointer alone, to `W` bits. -/
theorem State.setSp_eq (s : State) (um : Bool) (v : Word) : s.setSp um v = s.withSp um (low s.W v) := by
  unfold State.setSp State.withSp
  by_cases h : s.usesUserStack um = true
  · rw [if_pos h, if_pos (State.usesUserStack_iff.mp h)]
  · rw [if_neg h, if_neg (fun c => h (State.usesUserStack_iff.mpr c))]

theorem State.sp_eq (s : State) (um : Bool) : s.sp um = low s.W (s.spCell um) := by
  unfold State.sp State.spCell
  by_cases h : s.usesUserStack um = true
  · rw [if_pos h, if_pos (State.usesUserStack_iff.mp h)]
  · rw [if_neg h, if_neg (fun c => h (State.usesUserStack_iff.mpr c))]

theorem State.reg_eq (s : State) (r : Reg) : s.reg r = low s.W (s.cellOf r) := by cases r <;> rfl

/-- A write of bytes changes memory alone, as `Stored` says. -/
theorem State.memWrite_stored {s : State} (hm : s.mem.wf = true) (env : Mode) (a : Word) (n : Nat) (v : Word) :
    Stored s env a n v (s.memWrite env a n v).mem :=
  ⟨fun k h => State.memWrite_read_other s env a n v k h,
   fun i hi h => State.memWrite_read_byte hm env a n v i hi h⟩

/-- A push writes its bytes and moves its stack pointer; nothing else. -/
theorem State.push_eq (s : State) (um : Bool) (k : Nat) (v : Word) :
    s.push um k v = ({ s with mem := (s.memWrite (s.envFor um) (s.pushAddr um k) k v).mem } : State).withSp um
      (low s.W (s.sp um - BitVec.ofNat 64 k)) := by
  rw [State.push, State.setSp_eq, State.memWrite_eq]
  rfl

end Sys2Proof.Machine
end

