-- ==== Sys2Proof/Laws/PerInstr.lean ====
section
/-! SUPPORT. Per instruction: the encoder and the decoder's tables agree about its cell. -/

namespace Sys2Proof.Laws.RowOfCell

/-- The row that the tables of R95 and R96 hold at the instruction's opcode has the instruction's mode, and makes the
instruction from its operand. -/
def Statement (i : Instr) : Prop :=
  ∀ k, i.cell = some k → ∃ r, lookupRow [] k.page k.opcode = some r ∧ r.mode = k.mode ∧ r.make k.operand = i

/-- A cell that is known has the row that is found. -/
theorem of_cell {i : Instr} {p : Page} {b : Byte} {md : AddrMode} {v : Word} {mk : Word → Instr}
    (hk : i.cell = some ⟨p, b, md, v⟩) (hr : lookupRow [] p b = some ⟨b, md, mk⟩) (hi : mk v = i) : Statement i := by
  intro k h
  rw [hk] at h
  cases h
  exact ⟨_, hr, rfl, hi⟩

theorem prefix1 (f : Prefix1) : Statement (.prefix1 f) := fun _ h => by cases h
theorem prefix2 (f : Prefix2) : Statement (.prefix2 f) := fun _ h => by cases h
theorem oraIndZpX (op : Word) : Statement (.oraIndZpX op) :=
  of_cell (mk := .oraIndZpX) rfl (by rfl) rfl
theorem oraQuadZpX (op : Word) : Statement (.oraQuadZpX op) :=
  of_cell (mk := .oraQuadZpX) rfl (by rfl) rfl
theorem oraZp (op : Word) : Statement (.oraZp op) :=
  of_cell (mk := .oraZp) rfl (by rfl) rfl
theorem oraImm (op : Word) : Statement (.oraImm op) :=
  of_cell (mk := .oraImm) rfl (by rfl) rfl
theorem oraAbs (op : Word) : Statement (.oraAbs op) :=
  of_cell (mk := .oraAbs) rfl (by rfl) rfl
theorem oraIndZpY (op : Word) : Statement (.oraIndZpY op) :=
  of_cell (mk := .oraIndZpY) rfl (by rfl) rfl
theorem oraIndZp (op : Word) : Statement (.oraIndZp op) :=
  of_cell (mk := .oraIndZp) rfl (by rfl) rfl
theorem oraQuadZpY (op : Word) : Statement (.oraQuadZpY op) :=
  of_cell (mk := .oraQuadZpY) rfl (by rfl) rfl
theorem oraZpX (op : Word) : Statement (.oraZpX op) :=
  of_cell (mk := .oraZpX) rfl (by rfl) rfl
theorem oraQuadZp (op : Word) : Statement (.oraQuadZp op) :=
  of_cell (mk := .oraQuadZp) rfl (by rfl) rfl
theorem oraAbsY (op : Word) : Statement (.oraAbsY op) :=
  of_cell (mk := .oraAbsY) rfl (by rfl) rfl
theorem oraAbsX (op : Word) : Statement (.oraAbsX op) :=
  of_cell (mk := .oraAbsX) rfl (by rfl) rfl
theorem andIndZpX (op : Word) : Statement (.andIndZpX op) :=
  of_cell (mk := .andIndZpX) rfl (by rfl) rfl
theorem andQuadZpX (op : Word) : Statement (.andQuadZpX op) :=
  of_cell (mk := .andQuadZpX) rfl (by rfl) rfl
theorem andZp (op : Word) : Statement (.andZp op) :=
  of_cell (mk := .andZp) rfl (by rfl) rfl
theorem andImm (op : Word) : Statement (.andImm op) :=
  of_cell (mk := .andImm) rfl (by rfl) rfl
theorem andAbs (op : Word) : Statement (.andAbs op) :=
  of_cell (mk := .andAbs) rfl (by rfl) rfl
theorem andIndZpY (op : Word) : Statement (.andIndZpY op) :=
  of_cell (mk := .andIndZpY) rfl (by rfl) rfl
theorem andIndZp (op : Word) : Statement (.andIndZp op) :=
  of_cell (mk := .andIndZp) rfl (by rfl) rfl
theorem andQuadZpY (op : Word) : Statement (.andQuadZpY op) :=
  of_cell (mk := .andQuadZpY) rfl (by rfl) rfl
theorem andZpX (op : Word) : Statement (.andZpX op) :=
  of_cell (mk := .andZpX) rfl (by rfl) rfl
theorem andQuadZp (op : Word) : Statement (.andQuadZp op) :=
  of_cell (mk := .andQuadZp) rfl (by rfl) rfl
theorem andAbsY (op : Word) : Statement (.andAbsY op) :=
  of_cell (mk := .andAbsY) rfl (by rfl) rfl
theorem andAbsX (op : Word) : Statement (.andAbsX op) :=
  of_cell (mk := .andAbsX) rfl (by rfl) rfl
theorem eorIndZpX (op : Word) : Statement (.eorIndZpX op) :=
  of_cell (mk := .eorIndZpX) rfl (by rfl) rfl
theorem eorQuadZpX (op : Word) : Statement (.eorQuadZpX op) :=
  of_cell (mk := .eorQuadZpX) rfl (by rfl) rfl
theorem eorZp (op : Word) : Statement (.eorZp op) :=
  of_cell (mk := .eorZp) rfl (by rfl) rfl
theorem eorImm (op : Word) : Statement (.eorImm op) :=
  of_cell (mk := .eorImm) rfl (by rfl) rfl
theorem eorAbs (op : Word) : Statement (.eorAbs op) :=
  of_cell (mk := .eorAbs) rfl (by rfl) rfl
theorem eorIndZpY (op : Word) : Statement (.eorIndZpY op) :=
  of_cell (mk := .eorIndZpY) rfl (by rfl) rfl
theorem eorIndZp (op : Word) : Statement (.eorIndZp op) :=
  of_cell (mk := .eorIndZp) rfl (by rfl) rfl
theorem eorQuadZpY (op : Word) : Statement (.eorQuadZpY op) :=
  of_cell (mk := .eorQuadZpY) rfl (by rfl) rfl
theorem eorZpX (op : Word) : Statement (.eorZpX op) :=
  of_cell (mk := .eorZpX) rfl (by rfl) rfl
theorem eorQuadZp (op : Word) : Statement (.eorQuadZp op) :=
  of_cell (mk := .eorQuadZp) rfl (by rfl) rfl
theorem eorAbsY (op : Word) : Statement (.eorAbsY op) :=
  of_cell (mk := .eorAbsY) rfl (by rfl) rfl
theorem eorAbsX (op : Word) : Statement (.eorAbsX op) :=
  of_cell (mk := .eorAbsX) rfl (by rfl) rfl
theorem bitZp (op : Word) : Statement (.bitZp op) :=
  of_cell (mk := .bitZp) rfl (by rfl) rfl
theorem bitAbs (op : Word) : Statement (.bitAbs op) :=
  of_cell (mk := .bitAbs) rfl (by rfl) rfl
theorem bitZpX (op : Word) : Statement (.bitZpX op) :=
  of_cell (mk := .bitZpX) rfl (by rfl) rfl
theorem bitAbsX (op : Word) : Statement (.bitAbsX op) :=
  of_cell (mk := .bitAbsX) rfl (by rfl) rfl
theorem adcIndZpX (op : Word) : Statement (.adcIndZpX op) :=
  of_cell (mk := .adcIndZpX) rfl (by rfl) rfl
theorem adcQuadZpX (op : Word) : Statement (.adcQuadZpX op) :=
  of_cell (mk := .adcQuadZpX) rfl (by rfl) rfl
theorem adcZp (op : Word) : Statement (.adcZp op) :=
  of_cell (mk := .adcZp) rfl (by rfl) rfl
theorem adcImm (op : Word) : Statement (.adcImm op) :=
  of_cell (mk := .adcImm) rfl (by rfl) rfl
theorem adcAbs (op : Word) : Statement (.adcAbs op) :=
  of_cell (mk := .adcAbs) rfl (by rfl) rfl
theorem adcIndZpY (op : Word) : Statement (.adcIndZpY op) :=
  of_cell (mk := .adcIndZpY) rfl (by rfl) rfl
theorem adcIndZp (op : Word) : Statement (.adcIndZp op) :=
  of_cell (mk := .adcIndZp) rfl (by rfl) rfl
theorem adcQuadZpY (op : Word) : Statement (.adcQuadZpY op) :=
  of_cell (mk := .adcQuadZpY) rfl (by rfl) rfl
theorem adcZpX (op : Word) : Statement (.adcZpX op) :=
  of_cell (mk := .adcZpX) rfl (by rfl) rfl
theorem adcQuadZp (op : Word) : Statement (.adcQuadZp op) :=
  of_cell (mk := .adcQuadZp) rfl (by rfl) rfl
theorem adcAbsY (op : Word) : Statement (.adcAbsY op) :=
  of_cell (mk := .adcAbsY) rfl (by rfl) rfl
theorem adcAbsX (op : Word) : Statement (.adcAbsX op) :=
  of_cell (mk := .adcAbsX) rfl (by rfl) rfl
theorem bitImm (op : Word) : Statement (.bitImm op) :=
  of_cell (mk := .bitImm) rfl (by rfl) rfl
theorem cpyImm (op : Word) : Statement (.cpyImm op) :=
  of_cell (mk := .cpyImm) rfl (by rfl) rfl
theorem cmpIndZpX (op : Word) : Statement (.cmpIndZpX op) :=
  of_cell (mk := .cmpIndZpX) rfl (by rfl) rfl
theorem cmpQuadZpX (op : Word) : Statement (.cmpQuadZpX op) :=
  of_cell (mk := .cmpQuadZpX) rfl (by rfl) rfl
theorem cpyZp (op : Word) : Statement (.cpyZp op) :=
  of_cell (mk := .cpyZp) rfl (by rfl) rfl
theorem cmpZp (op : Word) : Statement (.cmpZp op) :=
  of_cell (mk := .cmpZp) rfl (by rfl) rfl
theorem cmpImm (op : Word) : Statement (.cmpImm op) :=
  of_cell (mk := .cmpImm) rfl (by rfl) rfl
theorem cpyAbs (op : Word) : Statement (.cpyAbs op) :=
  of_cell (mk := .cpyAbs) rfl (by rfl) rfl
theorem cmpAbs (op : Word) : Statement (.cmpAbs op) :=
  of_cell (mk := .cmpAbs) rfl (by rfl) rfl
theorem cmpIndZpY (op : Word) : Statement (.cmpIndZpY op) :=
  of_cell (mk := .cmpIndZpY) rfl (by rfl) rfl
theorem cmpIndZp (op : Word) : Statement (.cmpIndZp op) :=
  of_cell (mk := .cmpIndZp) rfl (by rfl) rfl
theorem cmpQuadZpY (op : Word) : Statement (.cmpQuadZpY op) :=
  of_cell (mk := .cmpQuadZpY) rfl (by rfl) rfl
theorem cmpZpX (op : Word) : Statement (.cmpZpX op) :=
  of_cell (mk := .cmpZpX) rfl (by rfl) rfl
theorem cmpQuadZp (op : Word) : Statement (.cmpQuadZp op) :=
  of_cell (mk := .cmpQuadZp) rfl (by rfl) rfl
theorem cmpAbsY (op : Word) : Statement (.cmpAbsY op) :=
  of_cell (mk := .cmpAbsY) rfl (by rfl) rfl
theorem cmpAbsX (op : Word) : Statement (.cmpAbsX op) :=
  of_cell (mk := .cmpAbsX) rfl (by rfl) rfl
theorem cpxImm (op : Word) : Statement (.cpxImm op) :=
  of_cell (mk := .cpxImm) rfl (by rfl) rfl
theorem sbcIndZpX (op : Word) : Statement (.sbcIndZpX op) :=
  of_cell (mk := .sbcIndZpX) rfl (by rfl) rfl
theorem sbcQuadZpX (op : Word) : Statement (.sbcQuadZpX op) :=
  of_cell (mk := .sbcQuadZpX) rfl (by rfl) rfl
theorem cpxZp (op : Word) : Statement (.cpxZp op) :=
  of_cell (mk := .cpxZp) rfl (by rfl) rfl
theorem sbcZp (op : Word) : Statement (.sbcZp op) :=
  of_cell (mk := .sbcZp) rfl (by rfl) rfl
theorem sbcImm (op : Word) : Statement (.sbcImm op) :=
  of_cell (mk := .sbcImm) rfl (by rfl) rfl
theorem cpxAbs (op : Word) : Statement (.cpxAbs op) :=
  of_cell (mk := .cpxAbs) rfl (by rfl) rfl
theorem sbcAbs (op : Word) : Statement (.sbcAbs op) :=
  of_cell (mk := .sbcAbs) rfl (by rfl) rfl
theorem sbcIndZpY (op : Word) : Statement (.sbcIndZpY op) :=
  of_cell (mk := .sbcIndZpY) rfl (by rfl) rfl
theorem sbcIndZp (op : Word) : Statement (.sbcIndZp op) :=
  of_cell (mk := .sbcIndZp) rfl (by rfl) rfl
theorem sbcQuadZpY (op : Word) : Statement (.sbcQuadZpY op) :=
  of_cell (mk := .sbcQuadZpY) rfl (by rfl) rfl
theorem sbcZpX (op : Word) : Statement (.sbcZpX op) :=
  of_cell (mk := .sbcZpX) rfl (by rfl) rfl
theorem sbcQuadZp (op : Word) : Statement (.sbcQuadZp op) :=
  of_cell (mk := .sbcQuadZp) rfl (by rfl) rfl
theorem sbcAbsY (op : Word) : Statement (.sbcAbsY op) :=
  of_cell (mk := .sbcAbsY) rfl (by rfl) rfl
theorem sbcAbsX (op : Word) : Statement (.sbcAbsX op) :=
  of_cell (mk := .sbcAbsX) rfl (by rfl) rfl
theorem ldaZpY (op : Word) : Statement (.ldaZpY op) :=
  of_cell (mk := .ldaZpY) rfl (by rfl) rfl
theorem staZpY (op : Word) : Statement (.staZpY op) :=
  of_cell (mk := .staZpY) rfl (by rfl) rfl
theorem ldaIndAbsY (op : Word) : Statement (.ldaIndAbsY op) :=
  of_cell (mk := .ldaIndAbsY) rfl (by rfl) rfl
theorem ldaQuadAbsY (op : Word) : Statement (.ldaQuadAbsY op) :=
  of_cell (mk := .ldaQuadAbsY) rfl (by rfl) rfl
theorem ldaIndAbsX (op : Word) : Statement (.ldaIndAbsX op) :=
  of_cell (mk := .ldaIndAbsX) rfl (by rfl) rfl
theorem stzZp (op : Word) : Statement (.stzZp op) :=
  of_cell (mk := .stzZp) rfl (by rfl) rfl
theorem ldaQuadAbsX (op : Word) : Statement (.ldaQuadAbsX op) :=
  of_cell (mk := .ldaQuadAbsX) rfl (by rfl) rfl
theorem stzZpX (op : Word) : Statement (.stzZpX op) :=
  of_cell (mk := .stzZpX) rfl (by rfl) rfl
theorem staIndZpX (op : Word) : Statement (.staIndZpX op) :=
  of_cell (mk := .staIndZpX) rfl (by rfl) rfl
theorem staQuadZpX (op : Word) : Statement (.staQuadZpX op) :=
  of_cell (mk := .staQuadZpX) rfl (by rfl) rfl
theorem styZp (op : Word) : Statement (.styZp op) :=
  of_cell (mk := .styZp) rfl (by rfl) rfl
theorem staZp (op : Word) : Statement (.staZp op) :=
  of_cell (mk := .staZp) rfl (by rfl) rfl
theorem stxZp (op : Word) : Statement (.stxZp op) :=
  of_cell (mk := .stxZp) rfl (by rfl) rfl
theorem styAbs (op : Word) : Statement (.styAbs op) :=
  of_cell (mk := .styAbs) rfl (by rfl) rfl
theorem staAbs (op : Word) : Statement (.staAbs op) :=
  of_cell (mk := .staAbs) rfl (by rfl) rfl
theorem stxAbs (op : Word) : Statement (.stxAbs op) :=
  of_cell (mk := .stxAbs) rfl (by rfl) rfl
theorem staIndZpY (op : Word) : Statement (.staIndZpY op) :=
  of_cell (mk := .staIndZpY) rfl (by rfl) rfl
theorem staIndZp (op : Word) : Statement (.staIndZp op) :=
  of_cell (mk := .staIndZp) rfl (by rfl) rfl
theorem staQuadZpY (op : Word) : Statement (.staQuadZpY op) :=
  of_cell (mk := .staQuadZpY) rfl (by rfl) rfl
theorem styZpX (op : Word) : Statement (.styZpX op) :=
  of_cell (mk := .styZpX) rfl (by rfl) rfl
theorem staZpX (op : Word) : Statement (.staZpX op) :=
  of_cell (mk := .staZpX) rfl (by rfl) rfl
theorem stxZpY (op : Word) : Statement (.stxZpY op) :=
  of_cell (mk := .stxZpY) rfl (by rfl) rfl
theorem staQuadZp (op : Word) : Statement (.staQuadZp op) :=
  of_cell (mk := .staQuadZp) rfl (by rfl) rfl
theorem staAbsY (op : Word) : Statement (.staAbsY op) :=
  of_cell (mk := .staAbsY) rfl (by rfl) rfl
theorem stzAbs (op : Word) : Statement (.stzAbs op) :=
  of_cell (mk := .stzAbs) rfl (by rfl) rfl
theorem staAbsX (op : Word) : Statement (.staAbsX op) :=
  of_cell (mk := .staAbsX) rfl (by rfl) rfl
theorem stzAbsX (op : Word) : Statement (.stzAbsX op) :=
  of_cell (mk := .stzAbsX) rfl (by rfl) rfl
theorem ldyImm (op : Word) : Statement (.ldyImm op) :=
  of_cell (mk := .ldyImm) rfl (by rfl) rfl
theorem ldaIndZpX (op : Word) : Statement (.ldaIndZpX op) :=
  of_cell (mk := .ldaIndZpX) rfl (by rfl) rfl
theorem ldxImm (op : Word) : Statement (.ldxImm op) :=
  of_cell (mk := .ldxImm) rfl (by rfl) rfl
theorem ldaQuadZpX (op : Word) : Statement (.ldaQuadZpX op) :=
  of_cell (mk := .ldaQuadZpX) rfl (by rfl) rfl
theorem ldyZp (op : Word) : Statement (.ldyZp op) :=
  of_cell (mk := .ldyZp) rfl (by rfl) rfl
theorem ldaZp (op : Word) : Statement (.ldaZp op) :=
  of_cell (mk := .ldaZp) rfl (by rfl) rfl
theorem ldxZp (op : Word) : Statement (.ldxZp op) :=
  of_cell (mk := .ldxZp) rfl (by rfl) rfl
theorem ldaImm (op : Word) : Statement (.ldaImm op) :=
  of_cell (mk := .ldaImm) rfl (by rfl) rfl
theorem ldyAbs (op : Word) : Statement (.ldyAbs op) :=
  of_cell (mk := .ldyAbs) rfl (by rfl) rfl
theorem ldaAbs (op : Word) : Statement (.ldaAbs op) :=
  of_cell (mk := .ldaAbs) rfl (by rfl) rfl
theorem ldxAbs (op : Word) : Statement (.ldxAbs op) :=
  of_cell (mk := .ldxAbs) rfl (by rfl) rfl
theorem ldaIndZpY (op : Word) : Statement (.ldaIndZpY op) :=
  of_cell (mk := .ldaIndZpY) rfl (by rfl) rfl
theorem ldaIndZp (op : Word) : Statement (.ldaIndZp op) :=
  of_cell (mk := .ldaIndZp) rfl (by rfl) rfl
theorem ldaQuadZpY (op : Word) : Statement (.ldaQuadZpY op) :=
  of_cell (mk := .ldaQuadZpY) rfl (by rfl) rfl
theorem ldyZpX (op : Word) : Statement (.ldyZpX op) :=
  of_cell (mk := .ldyZpX) rfl (by rfl) rfl
theorem ldaZpX (op : Word) : Statement (.ldaZpX op) :=
  of_cell (mk := .ldaZpX) rfl (by rfl) rfl
theorem ldxZpY (op : Word) : Statement (.ldxZpY op) :=
  of_cell (mk := .ldxZpY) rfl (by rfl) rfl
theorem ldaQuadZp (op : Word) : Statement (.ldaQuadZp op) :=
  of_cell (mk := .ldaQuadZp) rfl (by rfl) rfl
theorem ldaAbsY (op : Word) : Statement (.ldaAbsY op) :=
  of_cell (mk := .ldaAbsY) rfl (by rfl) rfl
theorem ldyAbsX (op : Word) : Statement (.ldyAbsX op) :=
  of_cell (mk := .ldyAbsX) rfl (by rfl) rfl
theorem ldaAbsX (op : Word) : Statement (.ldaAbsX op) :=
  of_cell (mk := .ldaAbsX) rfl (by rfl) rfl
theorem ldxAbsY (op : Word) : Statement (.ldxAbsY op) :=
  of_cell (mk := .ldxAbsY) rfl (by rfl) rfl
theorem staIndAbsY (op : Word) : Statement (.staIndAbsY op) :=
  of_cell (mk := .staIndAbsY) rfl (by rfl) rfl
theorem staQuadAbsY (op : Word) : Statement (.staQuadAbsY op) :=
  of_cell (mk := .staQuadAbsY) rfl (by rfl) rfl
theorem staIndAbsX (op : Word) : Statement (.staIndAbsX op) :=
  of_cell (mk := .staIndAbsX) rfl (by rfl) rfl
theorem staQuadAbsX (op : Word) : Statement (.staQuadAbsX op) :=
  of_cell (mk := .staQuadAbsX) rfl (by rfl) rfl
theorem tsbZp (op : Word) : Statement (.tsbZp op) :=
  of_cell (mk := .tsbZp) rfl (by rfl) rfl
theorem aslZp (op : Word) : Statement (.aslZp op) :=
  of_cell (mk := .aslZp) rfl (by rfl) rfl
theorem tsbAbs (op : Word) : Statement (.tsbAbs op) :=
  of_cell (mk := .tsbAbs) rfl (by rfl) rfl
theorem aslAbs (op : Word) : Statement (.aslAbs op) :=
  of_cell (mk := .aslAbs) rfl (by rfl) rfl
theorem trbZp (op : Word) : Statement (.trbZp op) :=
  of_cell (mk := .trbZp) rfl (by rfl) rfl
theorem aslZpX (op : Word) : Statement (.aslZpX op) :=
  of_cell (mk := .aslZpX) rfl (by rfl) rfl
theorem trbAbs (op : Word) : Statement (.trbAbs op) :=
  of_cell (mk := .trbAbs) rfl (by rfl) rfl
theorem aslAbsX (op : Word) : Statement (.aslAbsX op) :=
  of_cell (mk := .aslAbsX) rfl (by rfl) rfl
theorem rolZp (op : Word) : Statement (.rolZp op) :=
  of_cell (mk := .rolZp) rfl (by rfl) rfl
theorem rolAbs (op : Word) : Statement (.rolAbs op) :=
  of_cell (mk := .rolAbs) rfl (by rfl) rfl
theorem rolZpX (op : Word) : Statement (.rolZpX op) :=
  of_cell (mk := .rolZpX) rfl (by rfl) rfl
theorem rolAbsX (op : Word) : Statement (.rolAbsX op) :=
  of_cell (mk := .rolAbsX) rfl (by rfl) rfl
theorem lsrZp (op : Word) : Statement (.lsrZp op) :=
  of_cell (mk := .lsrZp) rfl (by rfl) rfl
theorem lsrAbs (op : Word) : Statement (.lsrAbs op) :=
  of_cell (mk := .lsrAbs) rfl (by rfl) rfl
theorem lsrZpX (op : Word) : Statement (.lsrZpX op) :=
  of_cell (mk := .lsrZpX) rfl (by rfl) rfl
theorem lsrAbsX (op : Word) : Statement (.lsrAbsX op) :=
  of_cell (mk := .lsrAbsX) rfl (by rfl) rfl
theorem rorZp (op : Word) : Statement (.rorZp op) :=
  of_cell (mk := .rorZp) rfl (by rfl) rfl
theorem rorAbs (op : Word) : Statement (.rorAbs op) :=
  of_cell (mk := .rorAbs) rfl (by rfl) rfl
theorem rorZpX (op : Word) : Statement (.rorZpX op) :=
  of_cell (mk := .rorZpX) rfl (by rfl) rfl
theorem rorAbsX (op : Word) : Statement (.rorAbsX op) :=
  of_cell (mk := .rorAbsX) rfl (by rfl) rfl
theorem decZp (op : Word) : Statement (.decZp op) :=
  of_cell (mk := .decZp) rfl (by rfl) rfl
theorem decAbs (op : Word) : Statement (.decAbs op) :=
  of_cell (mk := .decAbs) rfl (by rfl) rfl
theorem decZpX (op : Word) : Statement (.decZpX op) :=
  of_cell (mk := .decZpX) rfl (by rfl) rfl
theorem decAbsX (op : Word) : Statement (.decAbsX op) :=
  of_cell (mk := .decAbsX) rfl (by rfl) rfl
theorem incZp (op : Word) : Statement (.incZp op) :=
  of_cell (mk := .incZp) rfl (by rfl) rfl
theorem incAbs (op : Word) : Statement (.incAbs op) :=
  of_cell (mk := .incAbs) rfl (by rfl) rfl
theorem incZpX (op : Word) : Statement (.incZpX op) :=
  of_cell (mk := .incZpX) rfl (by rfl) rfl
theorem incAbsX (op : Word) : Statement (.incAbsX op) :=
  of_cell (mk := .incAbsX) rfl (by rfl) rfl
theorem brk (op : Word) : Statement (.brk op) :=
  of_cell (mk := .brk) rfl (by rfl) rfl
theorem jmpQuadAbs (op : Word) : Statement (.jmpQuadAbs op) :=
  of_cell (mk := .jmpQuadAbs) rfl (by rfl) rfl
theorem bpl (op : Word) : Statement (.bpl op) :=
  of_cell (mk := .bpl) rfl (by rfl) rfl
theorem jsrAbs (op : Word) : Statement (.jsrAbs op) :=
  of_cell (mk := .jsrAbs) rfl (by rfl) rfl
theorem jmpQuadAbsX (op : Word) : Statement (.jmpQuadAbsX op) :=
  of_cell (mk := .jmpQuadAbsX) rfl (by rfl) rfl
theorem bmi (op : Word) : Statement (.bmi op) :=
  of_cell (mk := .bmi) rfl (by rfl) rfl
theorem bsrRelWide (op : Word) : Statement (.bsrRelWide op) :=
  of_cell (mk := .bsrRelWide) rfl (by rfl) rfl
theorem jmpAbs (op : Word) : Statement (.jmpAbs op) :=
  of_cell (mk := .jmpAbs) rfl (by rfl) rfl
theorem bvc (op : Word) : Statement (.bvc op) :=
  of_cell (mk := .bvc) rfl (by rfl) rfl
theorem jmpIndAbs (op : Word) : Statement (.jmpIndAbs op) :=
  of_cell (mk := .jmpIndAbs) rfl (by rfl) rfl
theorem bvs (op : Word) : Statement (.bvs op) :=
  of_cell (mk := .bvs) rfl (by rfl) rfl
theorem jmpIndAbsX (op : Word) : Statement (.jmpIndAbsX op) :=
  of_cell (mk := .jmpIndAbsX) rfl (by rfl) rfl
theorem bra (op : Word) : Statement (.bra op) :=
  of_cell (mk := .bra) rfl (by rfl) rfl
theorem bsrRelByte (op : Word) : Statement (.bsrRelByte op) :=
  of_cell (mk := .bsrRelByte) rfl (by rfl) rfl
theorem jsrQuadAbs (op : Word) : Statement (.jsrQuadAbs op) :=
  of_cell (mk := .jsrQuadAbs) rfl (by rfl) rfl
theorem bcc (op : Word) : Statement (.bcc op) :=
  of_cell (mk := .bcc) rfl (by rfl) rfl
theorem jsrQuadAbsX (op : Word) : Statement (.jsrQuadAbsX op) :=
  of_cell (mk := .jsrQuadAbsX) rfl (by rfl) rfl
theorem bcs (op : Word) : Statement (.bcs op) :=
  of_cell (mk := .bcs) rfl (by rfl) rfl
theorem bne (op : Word) : Statement (.bne op) :=
  of_cell (mk := .bne) rfl (by rfl) rfl
theorem jsrIndAbs (op : Word) : Statement (.jsrIndAbs op) :=
  of_cell (mk := .jsrIndAbs) rfl (by rfl) rfl
theorem beq (op : Word) : Statement (.beq op) :=
  of_cell (mk := .beq) rfl (by rfl) rfl
theorem trp (op : Word) : Statement (.trp op) :=
  of_cell (mk := .trp) rfl (by rfl) rfl
theorem jsrIndAbsX (op : Word) : Statement (.jsrIndAbsX op) :=
  of_cell (mk := .jsrIndAbsX) rfl (by rfl) rfl
theorem aslAbsY (op : Word) : Statement (.aslAbsY op) :=
  of_cell (mk := .aslAbsY) rfl (by rfl) rfl
theorem rolAbsY (op : Word) : Statement (.rolAbsY op) :=
  of_cell (mk := .rolAbsY) rfl (by rfl) rfl
theorem lsrAbsY (op : Word) : Statement (.lsrAbsY op) :=
  of_cell (mk := .lsrAbsY) rfl (by rfl) rfl
theorem jmpLong (op : Word) : Statement (.jmpLong op) :=
  of_cell (mk := .jmpLong) rfl (by rfl) rfl
theorem rorAbsY (op : Word) : Statement (.rorAbsY op) :=
  of_cell (mk := .rorAbsY) rfl (by rfl) rfl
theorem styAbsX (op : Word) : Statement (.styAbsX op) :=
  of_cell (mk := .styAbsX) rfl (by rfl) rfl
theorem stzAbsY (op : Word) : Statement (.stzAbsY op) :=
  of_cell (mk := .stzAbsY) rfl (by rfl) rfl
theorem stxAbsY (op : Word) : Statement (.stxAbsY op) :=
  of_cell (mk := .stxAbsY) rfl (by rfl) rfl
theorem decAbsY (op : Word) : Statement (.decAbsY op) :=
  of_cell (mk := .decAbsY) rfl (by rfl) rfl
theorem jsrLong (op : Word) : Statement (.jsrLong op) :=
  of_cell (mk := .jsrLong) rfl (by rfl) rfl
theorem incAbsY (op : Word) : Statement (.incAbsY op) :=
  of_cell (mk := .incAbsY) rfl (by rfl) rfl
theorem pea (form : PeaForm) (op : Word) : Statement (.pea form op) := by
  cases form
  · exact of_cell (mk := (.pea .indAbsY)) rfl (by rfl) rfl
  · exact of_cell (mk := (.pea .relWide)) rfl (by rfl) rfl
  · exact of_cell (mk := (.pea .indAbsX)) rfl (by rfl) rfl
  · exact of_cell (mk := (.pea .indAbs)) rfl (by rfl) rfl
  · exact of_cell (mk := (.pea .quadAbsY)) rfl (by rfl) rfl
  · exact of_cell (mk := (.pea .quadAbsX)) rfl (by rfl) rfl
  · exact of_cell (mk := (.pea .quadAbs)) rfl (by rfl) rfl
  · exact of_cell (mk := (.pea .indZpX)) rfl (by rfl) rfl
  · exact of_cell (mk := (.pea .relByte)) rfl (by rfl) rfl
  · exact of_cell (mk := (.pea .zp)) rfl (by rfl) rfl
  · exact of_cell (mk := (.pea .indZpY)) rfl (by rfl) rfl
  · exact of_cell (mk := (.pea .indZp)) rfl (by rfl) rfl
  · exact of_cell (mk := (.pea .zpX)) rfl (by rfl) rfl
  · exact of_cell (mk := (.pea .quadZpY)) rfl (by rfl) rfl
  · exact of_cell (mk := (.pea .abs)) rfl (by rfl) rfl
  · exact of_cell (mk := (.pea .quadZpX)) rfl (by rfl) rfl
  · exact of_cell (mk := (.pea .quadZp)) rfl (by rfl) rfl
  · exact of_cell (mk := (.pea .zpY)) rfl (by rfl) rfl
  · exact of_cell (mk := (.pea .absX)) rfl (by rfl) rfl
  · exact of_cell (mk := (.pea .absY)) rfl (by rfl) rfl
theorem leaIndAbsY (op : Word) : Statement (.leaIndAbsY op) :=
  of_cell (mk := .leaIndAbsY) rfl (by rfl) rfl
theorem leaRelWide (op : Word) : Statement (.leaRelWide op) :=
  of_cell (mk := .leaRelWide) rfl (by rfl) rfl
theorem leaIndAbsX (op : Word) : Statement (.leaIndAbsX op) :=
  of_cell (mk := .leaIndAbsX) rfl (by rfl) rfl
theorem leaIndAbs (op : Word) : Statement (.leaIndAbs op) :=
  of_cell (mk := .leaIndAbs) rfl (by rfl) rfl
theorem leaZp (op : Word) : Statement (.leaZp op) :=
  of_cell (mk := .leaZp) rfl (by rfl) rfl
theorem leaZpX (op : Word) : Statement (.leaZpX op) :=
  of_cell (mk := .leaZpX) rfl (by rfl) rfl
theorem leaQuadAbsY (op : Word) : Statement (.leaQuadAbsY op) :=
  of_cell (mk := .leaQuadAbsY) rfl (by rfl) rfl
theorem leaQuadAbsX (op : Word) : Statement (.leaQuadAbsX op) :=
  of_cell (mk := .leaQuadAbsX) rfl (by rfl) rfl
theorem leaQuadAbs (op : Word) : Statement (.leaQuadAbs op) :=
  of_cell (mk := .leaQuadAbs) rfl (by rfl) rfl
theorem leaIndZpX (op : Word) : Statement (.leaIndZpX op) :=
  of_cell (mk := .leaIndZpX) rfl (by rfl) rfl
theorem leaRelByte (op : Word) : Statement (.leaRelByte op) :=
  of_cell (mk := .leaRelByte) rfl (by rfl) rfl
theorem leaAbs (op : Word) : Statement (.leaAbs op) :=
  of_cell (mk := .leaAbs) rfl (by rfl) rfl
theorem leaIndZpY (op : Word) : Statement (.leaIndZpY op) :=
  of_cell (mk := .leaIndZpY) rfl (by rfl) rfl
theorem leaIndZp (op : Word) : Statement (.leaIndZp op) :=
  of_cell (mk := .leaIndZp) rfl (by rfl) rfl
theorem leaAbsX (op : Word) : Statement (.leaAbsX op) :=
  of_cell (mk := .leaAbsX) rfl (by rfl) rfl
theorem leaAbsY (op : Word) : Statement (.leaAbsY op) :=
  of_cell (mk := .leaAbsY) rfl (by rfl) rfl
theorem leaQuadZpY (op : Word) : Statement (.leaQuadZpY op) :=
  of_cell (mk := .leaQuadZpY) rfl (by rfl) rfl
theorem leaQuadZpX (op : Word) : Statement (.leaQuadZpX op) :=
  of_cell (mk := .leaQuadZpX) rfl (by rfl) rfl
theorem leaQuadZp (op : Word) : Statement (.leaQuadZp op) :=
  of_cell (mk := .leaQuadZp) rfl (by rfl) rfl
theorem leaZpY (op : Word) : Statement (.leaZpY op) :=
  of_cell (mk := .leaZpY) rfl (by rfl) rfl
theorem addImm (op : Word) : Statement (.addImm op) :=
  of_cell (mk := .addImm) rfl (by rfl) rfl
theorem asrMem (form : ShiftForm) (op : Word) : Statement (.asrMem form op) := by
  cases form
  · exact of_cell (mk := (.asrMem .zp)) rfl (by rfl) rfl
  · exact of_cell (mk := (.asrMem .zpX)) rfl (by rfl) rfl
  · exact of_cell (mk := (.asrMem .abs)) rfl (by rfl) rfl
  · exact of_cell (mk := (.asrMem .absX)) rfl (by rfl) rfl
  · exact of_cell (mk := (.asrMem .absY)) rfl (by rfl) rfl
theorem bev (op : Word) : Statement (.bev op) :=
  of_cell (mk := .bev) rfl (by rfl) rfl
theorem adeImm (op : Word) : Statement (.adeImm op) :=
  of_cell (mk := .adeImm) rfl (by rfl) rfl
theorem rdlMem (form : ShiftForm) (op : Word) : Statement (.rdlMem form op) := by
  cases form
  · exact of_cell (mk := (.rdlMem .zp)) rfl (by rfl) rfl
  · exact of_cell (mk := (.rdlMem .zpX)) rfl (by rfl) rfl
  · exact of_cell (mk := (.rdlMem .abs)) rfl (by rfl) rfl
  · exact of_cell (mk := (.rdlMem .absX)) rfl (by rfl) rfl
  · exact of_cell (mk := (.rdlMem .absY)) rfl (by rfl) rfl
theorem bod (op : Word) : Statement (.bod op) :=
  of_cell (mk := .bod) rfl (by rfl) rfl
theorem lde (op : Word) : Statement (.lde op) :=
  of_cell (mk := .lde) rfl (by rfl) rfl
theorem adsImm (op : Word) : Statement (.adsImm op) :=
  of_cell (mk := .adsImm) rfl (by rfl) rfl
theorem blts (op : Word) : Statement (.blts op) :=
  of_cell (mk := .blts) rfl (by rfl) rfl
theorem ldb (op : Word) : Statement (.ldb op) :=
  of_cell (mk := .ldb) rfl (by rfl) rfl
theorem adbImm (op : Word) : Statement (.adbImm op) :=
  of_cell (mk := .adbImm) rfl (by rfl) rfl
theorem rdrMem (form : ShiftForm) (op : Word) : Statement (.rdrMem form op) := by
  cases form
  · exact of_cell (mk := (.rdrMem .zp)) rfl (by rfl) rfl
  · exact of_cell (mk := (.rdrMem .zpX)) rfl (by rfl) rfl
  · exact of_cell (mk := (.rdrMem .abs)) rfl (by rfl) rfl
  · exact of_cell (mk := (.rdrMem .absX)) rfl (by rfl) rfl
  · exact of_cell (mk := (.rdrMem .absY)) rfl (by rfl) rfl
theorem bges (op : Word) : Statement (.bges op) :=
  of_cell (mk := .bges) rfl (by rfl) rfl
theorem subImm (op : Word) : Statement (.subImm op) :=
  of_cell (mk := .subImm) rfl (by rfl) rfl
theorem ble (op : Word) : Statement (.ble op) :=
  of_cell (mk := .ble) rfl (by rfl) rfl
theorem sbeImm (op : Word) : Statement (.sbeImm op) :=
  of_cell (mk := .sbeImm) rfl (by rfl) rfl
theorem bgt (op : Word) : Statement (.bgt op) :=
  of_cell (mk := .bgt) rfl (by rfl) rfl
theorem sbsImm (op : Word) : Statement (.sbsImm op) :=
  of_cell (mk := .sbsImm) rfl (by rfl) rfl
theorem bles (op : Word) : Statement (.bles op) :=
  of_cell (mk := .bles) rfl (by rfl) rfl
theorem sbbImm (op : Word) : Statement (.sbbImm op) :=
  of_cell (mk := .sbbImm) rfl (by rfl) rfl
theorem bgts (op : Word) : Statement (.bgts op) :=
  of_cell (mk := .bgts) rfl (by rfl) rfl
theorem php : Statement .php := of_cell (mk := (fun _ => .php)) rfl (by rfl) rfl
theorem plp : Statement .plp := of_cell (mk := (fun _ => .plp)) rfl (by rfl) rfl
theorem pha : Statement .pha := of_cell (mk := (fun _ => .pha)) rfl (by rfl) rfl
theorem phy : Statement .phy := of_cell (mk := (fun _ => .phy)) rfl (by rfl) rfl
theorem pla : Statement .pla := of_cell (mk := (fun _ => .pla)) rfl (by rfl) rfl
theorem ply : Statement .ply := of_cell (mk := (fun _ => .ply)) rfl (by rfl) rfl
theorem txa : Statement .txa := of_cell (mk := (fun _ => .txa)) rfl (by rfl) rfl
theorem tya : Statement .tya := of_cell (mk := (fun _ => .tya)) rfl (by rfl) rfl
theorem txs : Statement .txs := of_cell (mk := (fun _ => .txs)) rfl (by rfl) rfl
theorem tay : Statement .tay := of_cell (mk := (fun _ => .tay)) rfl (by rfl) rfl
theorem tax : Statement .tax := of_cell (mk := (fun _ => .tax)) rfl (by rfl) rfl
theorem tsx : Statement .tsx := of_cell (mk := (fun _ => .tsx)) rfl (by rfl) rfl
theorem phx : Statement .phx := of_cell (mk := (fun _ => .phx)) rfl (by rfl) rfl
theorem plx : Statement .plx := of_cell (mk := (fun _ => .plx)) rfl (by rfl) rfl
theorem aslAcc : Statement .aslAcc := of_cell (mk := (fun _ => .aslAcc)) rfl (by rfl) rfl
theorem incAcc : Statement .incAcc := of_cell (mk := (fun _ => .incAcc)) rfl (by rfl) rfl
theorem rolAcc : Statement .rolAcc := of_cell (mk := (fun _ => .rolAcc)) rfl (by rfl) rfl
theorem decAcc : Statement .decAcc := of_cell (mk := (fun _ => .decAcc)) rfl (by rfl) rfl
theorem lsrAcc : Statement .lsrAcc := of_cell (mk := (fun _ => .lsrAcc)) rfl (by rfl) rfl
theorem rorAcc : Statement .rorAcc := of_cell (mk := (fun _ => .rorAcc)) rfl (by rfl) rfl
theorem dey : Statement .dey := of_cell (mk := (fun _ => .dey)) rfl (by rfl) rfl
theorem iny : Statement .iny := of_cell (mk := (fun _ => .iny)) rfl (by rfl) rfl
theorem dex : Statement .dex := of_cell (mk := (fun _ => .dex)) rfl (by rfl) rfl
theorem inx : Statement .inx := of_cell (mk := (fun _ => .inx)) rfl (by rfl) rfl
theorem clc : Statement .clc := of_cell (mk := (fun _ => .clc)) rfl (by rfl) rfl
theorem sec : Statement .sec := of_cell (mk := (fun _ => .sec)) rfl (by rfl) rfl
theorem rti : Statement .rti := of_cell (mk := (fun _ => .rti)) rfl (by rfl) rfl
theorem cli : Statement .cli := of_cell (mk := (fun _ => .cli)) rfl (by rfl) rfl
theorem rts : Statement .rts := of_cell (mk := (fun _ => .rts)) rfl (by rfl) rfl
theorem sei : Statement .sei := of_cell (mk := (fun _ => .sei)) rfl (by rfl) rfl
theorem clv : Statement .clv := of_cell (mk := (fun _ => .clv)) rfl (by rfl) rfl
theorem cld : Statement .cld := of_cell (mk := (fun _ => .cld)) rfl (by rfl) rfl
theorem nop : Statement .nop := of_cell (mk := (fun _ => .nop)) rfl (by rfl) rfl
theorem sed : Statement .sed := of_cell (mk := (fun _ => .sed)) rfl (by rfl) rfl
theorem extPage : Statement .extPage := fun _ h => by cases h
theorem sysPage : Statement .sysPage := of_cell (mk := (fun _ => .sysPage)) rfl (by rfl) rfl
theorem quickPage : Statement .quickPage := of_cell (mk := (fun _ => .quickPage)) rfl (by rfl) rfl
theorem reserved6F : Statement .reserved6F := of_cell (mk := (fun _ => .reserved6F)) rfl (by rfl) rfl
theorem reserved8F : Statement .reserved8F := of_cell (mk := (fun _ => .reserved8F)) rfl (by rfl) rfl
theorem reserved9F : Statement .reserved9F := of_cell (mk := (fun _ => .reserved9F)) rfl (by rfl) rfl
theorem reservedAF : Statement .reservedAF := of_cell (mk := (fun _ => .reservedAF)) rfl (by rfl) rfl
theorem reservedBF : Statement .reservedBF := of_cell (mk := (fun _ => .reservedBF)) rfl (by rfl) rfl
theorem reservedCF : Statement .reservedCF := of_cell (mk := (fun _ => .reservedCF)) rfl (by rfl) rfl
theorem reservedDF : Statement .reservedDF := of_cell (mk := (fun _ => .reservedDF)) rfl (by rfl) rfl
theorem reservedEF : Statement .reservedEF := of_cell (mk := (fun _ => .reservedEF)) rfl (by rfl) rfl
theorem reservedFF : Statement .reservedFF := of_cell (mk := (fun _ => .reservedFF)) rfl (by rfl) rfl
theorem unassigned1F : Statement .unassigned1F := of_cell (mk := (fun _ => .unassigned1F)) rfl (by rfl) rfl
theorem unassigned3F : Statement .unassigned3F := of_cell (mk := (fun _ => .unassigned3F)) rfl (by rfl) rfl
theorem unassigned54 : Statement .unassigned54 := of_cell (mk := (fun _ => .unassigned54)) rfl (by rfl) rfl
theorem unassigned5C : Statement .unassigned5C := of_cell (mk := (fun _ => .unassigned5C)) rfl (by rfl) rfl
theorem unassigned5F : Statement .unassigned5F := of_cell (mk := (fun _ => .unassigned5F)) rfl (by rfl) rfl
theorem unassigned7F : Statement .unassigned7F := of_cell (mk := (fun _ => .unassigned7F)) rfl (by rfl) rfl
theorem unassignedD4 : Statement .unassignedD4 := of_cell (mk := (fun _ => .unassignedD4)) rfl (by rfl) rfl
theorem oraIndE : Statement .oraIndE := of_cell (mk := (fun _ => .oraIndE)) rfl (by rfl) rfl
theorem tsbIndE : Statement .tsbIndE := of_cell (mk := (fun _ => .tsbIndE)) rfl (by rfl) rfl
theorem aslIndE : Statement .aslIndE := of_cell (mk := (fun _ => .aslIndE)) rfl (by rfl) rfl
theorem trbIndE : Statement .trbIndE := of_cell (mk := (fun _ => .trbIndE)) rfl (by rfl) rfl
theorem jsrIndE : Statement .jsrIndE := of_cell (mk := (fun _ => .jsrIndE)) rfl (by rfl) rfl
theorem andIndE : Statement .andIndE := of_cell (mk := (fun _ => .andIndE)) rfl (by rfl) rfl
theorem rolIndE : Statement .rolIndE := of_cell (mk := (fun _ => .rolIndE)) rfl (by rfl) rfl
theorem bitAcc : Statement .bitAcc := of_cell (mk := (fun _ => .bitAcc)) rfl (by rfl) rfl
theorem eorIndE : Statement .eorIndE := of_cell (mk := (fun _ => .eorIndE)) rfl (by rfl) rfl
theorem jmpIndE : Statement .jmpIndE := of_cell (mk := (fun _ => .jmpIndE)) rfl (by rfl) rfl
theorem lsrIndE : Statement .lsrIndE := of_cell (mk := (fun _ => .lsrIndE)) rfl (by rfl) rfl
theorem adcIndE : Statement .adcIndE := of_cell (mk := (fun _ => .adcIndE)) rfl (by rfl) rfl
theorem rorIndE : Statement .rorIndE := of_cell (mk := (fun _ => .rorIndE)) rfl (by rfl) rfl
theorem bitIndE : Statement .bitIndE := of_cell (mk := (fun _ => .bitIndE)) rfl (by rfl) rfl
theorem styIndE : Statement .styIndE := of_cell (mk := (fun _ => .styIndE)) rfl (by rfl) rfl
theorem staIndE : Statement .staIndE := of_cell (mk := (fun _ => .staIndE)) rfl (by rfl) rfl
theorem stzIndE : Statement .stzIndE := of_cell (mk := (fun _ => .stzIndE)) rfl (by rfl) rfl
theorem stxIndE : Statement .stxIndE := of_cell (mk := (fun _ => .stxIndE)) rfl (by rfl) rfl
theorem ldyIndE : Statement .ldyIndE := of_cell (mk := (fun _ => .ldyIndE)) rfl (by rfl) rfl
theorem ldaIndE : Statement .ldaIndE := of_cell (mk := (fun _ => .ldaIndE)) rfl (by rfl) rfl
theorem ldxIndE : Statement .ldxIndE := of_cell (mk := (fun _ => .ldxIndE)) rfl (by rfl) rfl
theorem cpyIndE : Statement .cpyIndE := of_cell (mk := (fun _ => .cpyIndE)) rfl (by rfl) rfl
theorem cmpIndE : Statement .cmpIndE := of_cell (mk := (fun _ => .cmpIndE)) rfl (by rfl) rfl
theorem decIndE : Statement .decIndE := of_cell (mk := (fun _ => .decIndE)) rfl (by rfl) rfl
theorem cpxIndE : Statement .cpxIndE := of_cell (mk := (fun _ => .cpxIndE)) rfl (by rfl) rfl
theorem sbcIndE : Statement .sbcIndE := of_cell (mk := (fun _ => .sbcIndE)) rfl (by rfl) rfl
theorem incIndE : Statement .incIndE := of_cell (mk := (fun _ => .incIndE)) rfl (by rfl) rfl
theorem addIndE : Statement .addIndE := of_cell (mk := (fun _ => .addIndE)) rfl (by rfl) rfl
theorem mvn : Statement .mvn := of_cell (mk := (fun _ => .mvn)) rfl (by rfl) rfl
theorem phe : Statement .phe := of_cell (mk := (fun _ => .phe)) rfl (by rfl) rfl
theorem asr : Statement .asr := of_cell (mk := (fun _ => .asr)) rfl (by rfl) rfl
theorem mvp : Statement .mvp := of_cell (mk := (fun _ => .mvp)) rfl (by rfl) rfl
theorem asrIndE : Statement .asrIndE := of_cell (mk := (fun _ => .asrIndE)) rfl (by rfl) rfl
theorem fil : Statement .fil := of_cell (mk := (fun _ => .fil)) rfl (by rfl) rfl
theorem ple : Statement .ple := of_cell (mk := (fun _ => .ple)) rfl (by rfl) rfl
theorem rdl : Statement .rdl := of_cell (mk := (fun _ => .rdl)) rfl (by rfl) rfl
theorem sca : Statement .sca := of_cell (mk := (fun _ => .sca)) rfl (by rfl) rfl
theorem ade : Statement .ade := of_cell (mk := (fun _ => .ade)) rfl (by rfl) rfl
theorem lla : Statement .lla := of_cell (mk := (fun _ => .lla)) rfl (by rfl) rfl
theorem rdlIndE : Statement .rdlIndE := of_cell (mk := (fun _ => .rdlIndE)) rfl (by rfl) rfl
theorem psh : Statement .psh := of_cell (mk := (fun _ => .psh)) rfl (by rfl) rfl
theorem phb : Statement .phb := of_cell (mk := (fun _ => .phb)) rfl (by rfl) rfl
theorem pll : Statement .pll := of_cell (mk := (fun _ => .pll)) rfl (by rfl) rfl
theorem ads : Statement .ads := of_cell (mk := (fun _ => .ads)) rfl (by rfl) rfl
theorem prb : Statement .prb := of_cell (mk := (fun _ => .prb)) rfl (by rfl) rfl
theorem rmb : Statement .rmb := of_cell (mk := (fun _ => .rmb)) rfl (by rfl) rfl
theorem plb : Statement .plb := of_cell (mk := (fun _ => .plb)) rfl (by rfl) rfl
theorem rdr : Statement .rdr := of_cell (mk := (fun _ => .rdr)) rfl (by rfl) rfl
theorem wmb : Statement .wmb := of_cell (mk := (fun _ => .wmb)) rfl (by rfl) rfl
theorem adb : Statement .adb := of_cell (mk := (fun _ => .adb)) rfl (by rfl) rfl
theorem rdrIndE : Statement .rdrIndE := of_cell (mk := (fun _ => .rdrIndE)) rfl (by rfl) rfl
theorem subIndE : Statement .subIndE := of_cell (mk := (fun _ => .subIndE)) rfl (by rfl) rfl
theorem hbs : Statement .hbs := of_cell (mk := (fun _ => .hbs)) rfl (by rfl) rfl
theorem tae : Statement .tae := of_cell (mk := (fun _ => .tae)) rfl (by rfl) rfl
theorem tys : Statement .tys := of_cell (mk := (fun _ => .tys)) rfl (by rfl) rfl
theorem hbc : Statement .hbc := of_cell (mk := (fun _ => .hbc)) rfl (by rfl) rfl
theorem tea : Statement .tea := of_cell (mk := (fun _ => .tea)) rfl (by rfl) rfl
theorem sxy : Statement .sxy := of_cell (mk := (fun _ => .sxy)) rfl (by rfl) rfl
theorem inv : Statement .inv := of_cell (mk := (fun _ => .inv)) rfl (by rfl) rfl
theorem sab : Statement .sab := of_cell (mk := (fun _ => .sab)) rfl (by rfl) rfl
theorem bcn : Statement .bcn := of_cell (mk := (fun _ => .bcn)) rfl (by rfl) rfl
theorem sbe : Statement .sbe := of_cell (mk := (fun _ => .sbe)) rfl (by rfl) rfl
theorem seb : Statement .seb := of_cell (mk := (fun _ => .seb)) rfl (by rfl) rfl
theorem sax : Statement .sax := of_cell (mk := (fun _ => .sax)) rfl (by rfl) rfl
theorem extOp : Statement .extOp := of_cell (mk := (fun _ => .extOp)) rfl (by rfl) rfl
theorem tpa : Statement .tpa := of_cell (mk := (fun _ => .tpa)) rfl (by rfl) rfl
theorem tsy : Statement .tsy := of_cell (mk := (fun _ => .tsy)) rfl (by rfl) rfl
theorem swp : Statement .swp := of_cell (mk := (fun _ => .swp)) rfl (by rfl) rfl
theorem sbs : Statement .sbs := of_cell (mk := (fun _ => .sbs)) rfl (by rfl) rfl
theorem sae : Statement .sae := of_cell (mk := (fun _ => .sae)) rfl (by rfl) rfl
theorem say : Statement .say := of_cell (mk := (fun _ => .say)) rfl (by rfl) rfl
theorem tab : Statement .tab := of_cell (mk := (fun _ => .tab)) rfl (by rfl) rfl
theorem teb : Statement .teb := of_cell (mk := (fun _ => .teb)) rfl (by rfl) rfl
theorem rmbIndE : Statement .rmbIndE := of_cell (mk := (fun _ => .rmbIndE)) rfl (by rfl) rfl
theorem bsw : Statement .bsw := of_cell (mk := (fun _ => .bsw)) rfl (by rfl) rfl
theorem sbb : Statement .sbb := of_cell (mk := (fun _ => .sbb)) rfl (by rfl) rfl
theorem tba : Statement .tba := of_cell (mk := (fun _ => .tba)) rfl (by rfl) rfl
theorem tbe : Statement .tbe := of_cell (mk := (fun _ => .tbe)) rfl (by rfl) rfl
theorem wmbIndE : Statement .wmbIndE := of_cell (mk := (fun _ => .wmbIndE)) rfl (by rfl) rfl

end Sys2Proof.Laws.RowOfCell
end

