-- ==== Sys2Proof/Tests/Slice0.lean ====
section
/-! SUPPORT. Tests, each a named theorem. Expected results come from spec/: the opcode table and the tables of
spec/30_encoding.md for the words, the vectors of spec/95_test_vectors.md and the examples of the instruction rules for the
steps. The last part shows, for each statement with hypotheses, a state that meets them. -/

namespace Sys2Proof.Machine

set_option maxRecDepth 20000
set_option Elab.async false

/-! ### Well-formedness: an ill-formed term for each check, refused -/

theorem test_wf_prefix1_not_after_prefix1 :
    WellFormed [] ⟨some ⟨.none, .b16, false⟩, none, .std⟩ (.prefix1 ⟨.none, .b8, true⟩) = false := by decide
theorem test_wf_prefix1_not_after_prefix2 :
    WellFormed [] ⟨none, some ⟨false, .none, true⟩, .std⟩ (.prefix1 ⟨.none, .b8, true⟩) = false := by decide
theorem test_wf_prefix2_not_twice :
    WellFormed [] ⟨none, some ⟨false, .none, true⟩, .std⟩ (.prefix2 ⟨false, .none, true⟩) = false := by decide
theorem test_wf_no_prefix_after_page_byte :
    WellFormed [] ⟨none, none, .ext⟩ (.prefix2 ⟨false, .none, true⟩) = false := by decide
theorem test_wf_page_byte_not_twice : WellFormed [] ⟨none, none, .ext⟩ .extPage = false := by decide
theorem test_wf_cell_of_other_page : WellFormed [] .start .ldaIndE = false := by decide
theorem test_wf_operand_too_wide : WellFormed [] .start (.ldaZp 0x100) = false := by decide
theorem test_wf_operand_wide_with_am :
    WellFormed [] ⟨some ⟨.none, .b8, true⟩, none, .std⟩ (.ldaZp 0x100) = true := by decide
theorem test_wf_duplicate_needs_am : WellFormed [] ⟨some ⟨.none, .b16, false⟩, none, .std⟩ (.oraQuadZp 1) = false := by decide
theorem test_wf_cell_not_assigned :
    WellFormed [(0xA9#8, 0x05#8)] ⟨none, none, .ext⟩ .ldaIndE = false := by decide +kernel

/-! ### Decoding: words written out from the encoding tables (R84, R92, R95, R96) -/

/-- The instruction that a whole byte sequence decodes to. -/
def decoded (bs : List Byte) : Option Instr :=
  match decodeInstruction [] bs with
  | .ok (_, i, []) => some i
  | _ => none

theorem test_decode_prefix1 :
    ([0x03, 0x47, 0x93, 0xF7].map fun b => (decode [] .start [BitVec.ofNat 8 b]).toOption)
      = [some (.prefix1 ⟨.none, .b8, false⟩, []), some (.prefix1 ⟨.pc, .b8, true⟩, []),
        some (.prefix1 ⟨.sp, .b16, false⟩, []), some (.prefix1 ⟨.br, .b64, true⟩, [])] := by decide
theorem test_decode_prefix2 :
    ([0x0B, 0x3B, 0xCB, 0xFB].map fun b => (decode [] .start [BitVec.ofNat 8 b]).toOption)
      = [some (.prefix2 ⟨false, .none, false⟩, []), some (.prefix2 ⟨false, .sign, true⟩, []),
        some (.prefix2 ⟨true, .zero, false⟩, []), some (.prefix2 ⟨true, .ones, true⟩, [])] := by decide
theorem test_decode_page_byte : (decode [] .start [0x0F#8]).toOption = some (.extPage, []) := by decide

theorem test_decode_std_row_0 : ([
    ([0x00, 0x12], .brk 0x12), ([0x01, 0x12], .oraIndZpX 0x12), ([0x02, 0x12], .ldaZpY 0x12),
    ([0x07, 0x03, 0x12], .oraQuadZpX 0x12), ([0x04, 0x12], .tsbZp 0x12), ([0x05, 0x12], .oraZp 0x12),
    ([0x06, 0x12], .aslZp 0x12), ([0x07, 0x07, 0x12, 0x34], .jmpQuadAbs 0x3412), ([0x08], .php),
    ([0x09, 0x12], .oraImm 0x12), ([0x0A], .aslAcc), ([0x0C, 0x12, 0x34], .tsbAbs 0x3412),
    ([0x0D, 0x12, 0x34], .oraAbs 0x3412), ([0x0E, 0x12, 0x34], .aslAbs 0x3412)] : List (List Nat × Instr)).all
    (fun p => decoded (p.1.map (BitVec.ofNat 8)) == some p.2) = true := by decide +kernel

theorem test_decode_std_row_1 : ([
    ([0x10, 0x12], .bpl 0x12), ([0x11, 0x12], .oraIndZpY 0x12), ([0x12, 0x12], .oraIndZp 0x12),
    ([0x07, 0x13, 0x12], .oraQuadZpY 0x12), ([0x14, 0x12], .trbZp 0x12), ([0x15, 0x12], .oraZpX 0x12),
    ([0x16, 0x12], .aslZpX 0x12), ([0x07, 0x17, 0x12], .oraQuadZp 0x12), ([0x18], .clc),
    ([0x19, 0x12, 0x34], .oraAbsY 0x3412), ([0x1A], .incAcc), ([0x1C, 0x12, 0x34], .trbAbs 0x3412),
    ([0x1D, 0x12, 0x34], .oraAbsX 0x3412), ([0x1E, 0x12, 0x34], .aslAbsX 0x3412), ([0x1F], .unassigned1F)] : List (List Nat × Instr)).all
    (fun p => decoded (p.1.map (BitVec.ofNat 8)) == some p.2) = true := by decide +kernel

theorem test_decode_std_row_2 : ([
    ([0x20, 0x12, 0x34], .jsrAbs 0x3412), ([0x21, 0x12], .andIndZpX 0x12), ([0x22, 0x12], .staZpY 0x12),
    ([0x07, 0x23, 0x12], .andQuadZpX 0x12), ([0x24, 0x12], .bitZp 0x12), ([0x25, 0x12], .andZp 0x12),
    ([0x26, 0x12], .rolZp 0x12), ([0x07, 0x27, 0x12, 0x34], .jmpQuadAbsX 0x3412), ([0x28], .plp),
    ([0x29, 0x12], .andImm 0x12), ([0x2A], .rolAcc), ([0x2C, 0x12, 0x34], .bitAbs 0x3412),
    ([0x2D, 0x12, 0x34], .andAbs 0x3412), ([0x2E, 0x12, 0x34], .rolAbs 0x3412), ([0x2F], .sysPage)] : List (List Nat × Instr)).all
    (fun p => decoded (p.1.map (BitVec.ofNat 8)) == some p.2) = true := by decide +kernel

theorem test_decode_std_row_3 : ([
    ([0x30, 0x12], .bmi 0x12), ([0x31, 0x12], .andIndZpY 0x12), ([0x32, 0x12], .andIndZp 0x12),
    ([0x07, 0x33, 0x12], .andQuadZpY 0x12), ([0x34, 0x12], .bitZpX 0x12), ([0x35, 0x12], .andZpX 0x12),
    ([0x36, 0x12], .rolZpX 0x12), ([0x07, 0x37, 0x12], .andQuadZp 0x12), ([0x38], .sec),
    ([0x39, 0x12, 0x34], .andAbsY 0x3412), ([0x3A], .decAcc), ([0x3C, 0x12, 0x34], .bitAbsX 0x3412),
    ([0x3D, 0x12, 0x34], .andAbsX 0x3412), ([0x3E, 0x12, 0x34], .rolAbsX 0x3412), ([0x3F], .unassigned3F)] : List (List Nat × Instr)).all
    (fun p => decoded (p.1.map (BitVec.ofNat 8)) == some p.2) = true := by decide +kernel

theorem test_decode_std_row_4 : ([
    ([0x40], .rti), ([0x41, 0x12], .eorIndZpX 0x12), ([0x42, 0x12, 0x34], .ldaIndAbsY 0x3412),
    ([0x07, 0x43, 0x12], .eorQuadZpX 0x12), ([0x44, 0x12, 0x34], .bsrRelWide 0x3412), ([0x45, 0x12], .eorZp 0x12),
    ([0x46, 0x12], .lsrZp 0x12), ([0x07, 0x47, 0x12, 0x34], .ldaQuadAbsY 0x3412), ([0x48], .pha),
    ([0x49, 0x12], .eorImm 0x12), ([0x4A], .lsrAcc), ([0x4C, 0x12, 0x34], .jmpAbs 0x3412),
    ([0x4D, 0x12, 0x34], .eorAbs 0x3412), ([0x4E, 0x12, 0x34], .lsrAbs 0x3412), ([0x4F], .quickPage)] : List (List Nat × Instr)).all
    (fun p => decoded (p.1.map (BitVec.ofNat 8)) == some p.2) = true := by decide +kernel

theorem test_decode_std_row_5 : ([
    ([0x50, 0x12], .bvc 0x12), ([0x51, 0x12], .eorIndZpY 0x12), ([0x52, 0x12], .eorIndZp 0x12),
    ([0x07, 0x53, 0x12], .eorQuadZpY 0x12), ([0x54], .unassigned54), ([0x55, 0x12], .eorZpX 0x12),
    ([0x56, 0x12], .lsrZpX 0x12), ([0x07, 0x57, 0x12], .eorQuadZp 0x12), ([0x58], .cli),
    ([0x59, 0x12, 0x34], .eorAbsY 0x3412), ([0x5A], .phy), ([0x5C], .unassigned5C),
    ([0x5D, 0x12, 0x34], .eorAbsX 0x3412), ([0x5E, 0x12, 0x34], .lsrAbsX 0x3412), ([0x5F], .unassigned5F)] : List (List Nat × Instr)).all
    (fun p => decoded (p.1.map (BitVec.ofNat 8)) == some p.2) = true := by decide +kernel

theorem test_decode_std_row_6 : ([
    ([0x60], .rts), ([0x61, 0x12], .adcIndZpX 0x12), ([0x62, 0x12, 0x34], .ldaIndAbsX 0x3412),
    ([0x07, 0x63, 0x12], .adcQuadZpX 0x12), ([0x64, 0x12], .stzZp 0x12), ([0x65, 0x12], .adcZp 0x12),
    ([0x66, 0x12], .rorZp 0x12), ([0x07, 0x67, 0x12, 0x34], .ldaQuadAbsX 0x3412), ([0x68], .pla),
    ([0x69, 0x12], .adcImm 0x12), ([0x6A], .rorAcc), ([0x6C, 0x12, 0x34], .jmpIndAbs 0x3412),
    ([0x6D, 0x12, 0x34], .adcAbs 0x3412), ([0x6E, 0x12, 0x34], .rorAbs 0x3412), ([0x6F], .reserved6F)] : List (List Nat × Instr)).all
    (fun p => decoded (p.1.map (BitVec.ofNat 8)) == some p.2) = true := by decide +kernel

theorem test_decode_std_row_7 : ([
    ([0x70, 0x12], .bvs 0x12), ([0x71, 0x12], .adcIndZpY 0x12), ([0x72, 0x12], .adcIndZp 0x12),
    ([0x07, 0x73, 0x12], .adcQuadZpY 0x12), ([0x74, 0x12], .stzZpX 0x12), ([0x75, 0x12], .adcZpX 0x12),
    ([0x76, 0x12], .rorZpX 0x12), ([0x07, 0x77, 0x12], .adcQuadZp 0x12), ([0x78], .sei),
    ([0x79, 0x12, 0x34], .adcAbsY 0x3412), ([0x7A], .ply), ([0x7C, 0x12, 0x34], .jmpIndAbsX 0x3412),
    ([0x7D, 0x12, 0x34], .adcAbsX 0x3412), ([0x7E, 0x12, 0x34], .rorAbsX 0x3412), ([0x7F], .unassigned7F)] : List (List Nat × Instr)).all
    (fun p => decoded (p.1.map (BitVec.ofNat 8)) == some p.2) = true := by decide +kernel

theorem test_decode_std_row_8 : ([
    ([0x80, 0x12], .bra 0x12), ([0x81, 0x12], .staIndZpX 0x12), ([0x82, 0x12], .bsrRelByte 0x12),
    ([0x07, 0x83, 0x12], .staQuadZpX 0x12), ([0x84, 0x12], .styZp 0x12), ([0x85, 0x12], .staZp 0x12),
    ([0x86, 0x12], .stxZp 0x12), ([0x07, 0x87, 0x12, 0x34], .jsrQuadAbs 0x3412), ([0x88], .dey),
    ([0x89, 0x12], .bitImm 0x12), ([0x8A], .txa), ([0x8C, 0x12, 0x34], .styAbs 0x3412),
    ([0x8D, 0x12, 0x34], .staAbs 0x3412), ([0x8E, 0x12, 0x34], .stxAbs 0x3412), ([0x8F], .reserved8F)] : List (List Nat × Instr)).all
    (fun p => decoded (p.1.map (BitVec.ofNat 8)) == some p.2) = true := by decide +kernel

theorem test_decode_std_row_9 : ([
    ([0x90, 0x12], .bcc 0x12), ([0x91, 0x12], .staIndZpY 0x12), ([0x92, 0x12], .staIndZp 0x12),
    ([0x07, 0x93, 0x12], .staQuadZpY 0x12), ([0x94, 0x12], .styZpX 0x12), ([0x95, 0x12], .staZpX 0x12),
    ([0x96, 0x12], .stxZpY 0x12), ([0x07, 0x97, 0x12], .staQuadZp 0x12), ([0x98], .tya),
    ([0x99, 0x12, 0x34], .staAbsY 0x3412), ([0x9A], .txs), ([0x9C, 0x12, 0x34], .stzAbs 0x3412),
    ([0x9D, 0x12, 0x34], .staAbsX 0x3412), ([0x9E, 0x12, 0x34], .stzAbsX 0x3412), ([0x9F], .reserved9F)] : List (List Nat × Instr)).all
    (fun p => decoded (p.1.map (BitVec.ofNat 8)) == some p.2) = true := by decide +kernel

theorem test_decode_std_row_A : ([
    ([0xA0, 0x12], .ldyImm 0x12), ([0xA1, 0x12], .ldaIndZpX 0x12), ([0xA2, 0x12], .ldxImm 0x12),
    ([0x07, 0xA3, 0x12], .ldaQuadZpX 0x12), ([0xA4, 0x12], .ldyZp 0x12), ([0xA5, 0x12], .ldaZp 0x12),
    ([0xA6, 0x12], .ldxZp 0x12), ([0x07, 0xA7, 0x12, 0x34], .jsrQuadAbsX 0x3412), ([0xA8], .tay),
    ([0xA9, 0x12], .ldaImm 0x12), ([0xAA], .tax), ([0xAC, 0x12, 0x34], .ldyAbs 0x3412),
    ([0xAD, 0x12, 0x34], .ldaAbs 0x3412), ([0xAE, 0x12, 0x34], .ldxAbs 0x3412), ([0xAF], .reservedAF)] : List (List Nat × Instr)).all
    (fun p => decoded (p.1.map (BitVec.ofNat 8)) == some p.2) = true := by decide +kernel

theorem test_decode_std_row_B : ([
    ([0xB0, 0x12], .bcs 0x12), ([0xB1, 0x12], .ldaIndZpY 0x12), ([0xB2, 0x12], .ldaIndZp 0x12),
    ([0x07, 0xB3, 0x12], .ldaQuadZpY 0x12), ([0xB4, 0x12], .ldyZpX 0x12), ([0xB5, 0x12], .ldaZpX 0x12),
    ([0xB6, 0x12], .ldxZpY 0x12), ([0x07, 0xB7, 0x12], .ldaQuadZp 0x12), ([0xB8], .clv),
    ([0xB9, 0x12, 0x34], .ldaAbsY 0x3412), ([0xBA], .tsx), ([0xBC, 0x12, 0x34], .ldyAbsX 0x3412),
    ([0xBD, 0x12, 0x34], .ldaAbsX 0x3412), ([0xBE, 0x12, 0x34], .ldxAbsY 0x3412), ([0xBF], .reservedBF)] : List (List Nat × Instr)).all
    (fun p => decoded (p.1.map (BitVec.ofNat 8)) == some p.2) = true := by decide +kernel

theorem test_decode_std_row_C : ([
    ([0xC0, 0x12], .cpyImm 0x12), ([0xC1, 0x12], .cmpIndZpX 0x12), ([0xC2, 0x12, 0x34], .staIndAbsY 0x3412),
    ([0x07, 0xC3, 0x12], .cmpQuadZpX 0x12), ([0xC4, 0x12], .cpyZp 0x12), ([0xC5, 0x12], .cmpZp 0x12),
    ([0xC6, 0x12], .decZp 0x12), ([0x07, 0xC7, 0x12, 0x34], .staQuadAbsY 0x3412), ([0xC8], .iny),
    ([0xC9, 0x12], .cmpImm 0x12), ([0xCA], .dex), ([0xCC, 0x12, 0x34], .cpyAbs 0x3412),
    ([0xCD, 0x12, 0x34], .cmpAbs 0x3412), ([0xCE, 0x12, 0x34], .decAbs 0x3412), ([0xCF], .reservedCF)] : List (List Nat × Instr)).all
    (fun p => decoded (p.1.map (BitVec.ofNat 8)) == some p.2) = true := by decide +kernel

theorem test_decode_std_row_D : ([
    ([0xD0, 0x12], .bne 0x12), ([0xD1, 0x12], .cmpIndZpY 0x12), ([0xD2, 0x12], .cmpIndZp 0x12),
    ([0x07, 0xD3, 0x12], .cmpQuadZpY 0x12), ([0xD4], .unassignedD4), ([0xD5, 0x12], .cmpZpX 0x12),
    ([0xD6, 0x12], .decZpX 0x12), ([0x07, 0xD7, 0x12], .cmpQuadZp 0x12), ([0xD8], .cld),
    ([0xD9, 0x12, 0x34], .cmpAbsY 0x3412), ([0xDA], .phx), ([0xDC, 0x12, 0x34], .jsrIndAbs 0x3412),
    ([0xDD, 0x12, 0x34], .cmpAbsX 0x3412), ([0xDE, 0x12, 0x34], .decAbsX 0x3412), ([0xDF], .reservedDF)] : List (List Nat × Instr)).all
    (fun p => decoded (p.1.map (BitVec.ofNat 8)) == some p.2) = true := by decide +kernel

theorem test_decode_std_row_E : ([
    ([0xE0, 0x12], .cpxImm 0x12), ([0xE1, 0x12], .sbcIndZpX 0x12), ([0xE2, 0x12, 0x34], .staIndAbsX 0x3412),
    ([0x07, 0xE3, 0x12], .sbcQuadZpX 0x12), ([0xE4, 0x12], .cpxZp 0x12), ([0xE5, 0x12], .sbcZp 0x12),
    ([0xE6, 0x12], .incZp 0x12), ([0x07, 0xE7, 0x12, 0x34], .staQuadAbsX 0x3412), ([0xE8], .inx),
    ([0xE9, 0x12], .sbcImm 0x12), ([0xEA], .nop), ([0xEC, 0x12, 0x34], .cpxAbs 0x3412),
    ([0xED, 0x12, 0x34], .sbcAbs 0x3412), ([0xEE, 0x12, 0x34], .incAbs 0x3412), ([0xEF], .reservedEF)] : List (List Nat × Instr)).all
    (fun p => decoded (p.1.map (BitVec.ofNat 8)) == some p.2) = true := by decide +kernel

theorem test_decode_std_row_F : ([
    ([0xF0, 0x12], .beq 0x12), ([0xF1, 0x12], .sbcIndZpY 0x12), ([0xF2, 0x12], .sbcIndZp 0x12),
    ([0x07, 0xF3, 0x12], .sbcQuadZpY 0x12), ([0xF4, 0x12], .trp 0x12), ([0xF5, 0x12], .sbcZpX 0x12),
    ([0xF6, 0x12], .incZpX 0x12), ([0x07, 0xF7, 0x12], .sbcQuadZp 0x12), ([0xF8], .sed),
    ([0xF9, 0x12, 0x34], .sbcAbsY 0x3412), ([0xFA], .plx), ([0xFC, 0x12, 0x34], .jsrIndAbsX 0x3412),
    ([0xFD, 0x12, 0x34], .sbcAbsX 0x3412), ([0xFE, 0x12, 0x34], .incAbsX 0x3412), ([0xFF], .reservedFF)] : List (List Nat × Instr)).all
    (fun p => decoded (p.1.map (BitVec.ofNat 8)) == some p.2) = true := by decide +kernel

theorem test_decode_ext_row_0 : ([
    ([0x0F, 0x00], .addIndE), ([0x0F, 0x01, 0x12, 0x34], .pea .indAbsY 0x3412),
    ([0x0F, 0x02, 0x12, 0x34], .pea .relWide 0x3412), ([0x0F, 0x03], .mvn), ([0x0F, 0x04, 0x12], .addImm 0x12),
    ([0x0F, 0x06, 0x12], .asrMem .zp 0x12), ([0x0F, 0x08], .phe), ([0x0F, 0x09], .oraIndE), ([0x0F, 0x0A], .asr),
    ([0x0F, 0x0C], .tsbIndE), ([0x0F, 0x0D], .aslIndE), ([0x0F, 0x0E, 0x12, 0x34], .asrMem .abs 0x3412),
    ([0x0F, 0x0F, 0x12, 0x34], .aslAbsY 0x3412)] : List (List Nat × Instr)).all
    (fun p => decoded (p.1.map (BitVec.ofNat 8)) == some p.2) = true := by decide +kernel

theorem test_decode_ext_row_1 : ([
    ([0x0F, 0x10, 0x12], .bev 0x12), ([0x0F, 0x11, 0x12, 0x34], .pea .indAbsX 0x3412),
    ([0x0F, 0x12, 0x12, 0x34], .pea .indAbs 0x3412), ([0x0F, 0x13], .mvp), ([0x0F, 0x16, 0x12], .asrMem .zpX 0x12),
    ([0x0F, 0x1C], .trbIndE), ([0x0F, 0x1D], .asrIndE), ([0x0F, 0x1E, 0x12, 0x34], .asrMem .absX 0x3412),
    ([0x0F, 0x1F, 0x12, 0x34], .asrMem .absY 0x3412)] : List (List Nat × Instr)).all
    (fun p => decoded (p.1.map (BitVec.ofNat 8)) == some p.2) = true := by decide +kernel

theorem test_decode_ext_row_2 : ([
    ([0x0F, 0x20], .jsrIndE), ([0x0F, 0x21, 0x12, 0x34], .leaIndAbsY 0x3412),
    ([0x0F, 0x22, 0x12, 0x34], .leaRelWide 0x3412), ([0x0F, 0x23], .fil), ([0x0F, 0x24, 0x12], .adeImm 0x12),
    ([0x0F, 0x26, 0x12], .rdlMem .zp 0x12), ([0x0F, 0x28], .ple), ([0x0F, 0x29], .andIndE), ([0x0F, 0x2A], .rdl),
    ([0x0F, 0x2C], .sca), ([0x0F, 0x2D], .rolIndE), ([0x0F, 0x2E, 0x12, 0x34], .rdlMem .abs 0x3412),
    ([0x0F, 0x2F, 0x12, 0x34], .rolAbsY 0x3412)] : List (List Nat × Instr)).all
    (fun p => decoded (p.1.map (BitVec.ofNat 8)) == some p.2) = true := by decide +kernel

theorem test_decode_ext_row_3 : ([
    ([0x0F, 0x30, 0x12], .bod 0x12), ([0x0F, 0x31, 0x12, 0x34], .leaIndAbsX 0x3412),
    ([0x0F, 0x32, 0x12, 0x34], .leaIndAbs 0x3412), ([0x0F, 0x33], .bitAcc), ([0x0F, 0x34], .ade),
    ([0x0F, 0x36, 0x12], .rdlMem .zpX 0x12), ([0x0F, 0x39, 0x12], .lde 0x12), ([0x0F, 0x3C], .lla),
    ([0x0F, 0x3D], .rdlIndE), ([0x0F, 0x3E, 0x12, 0x34], .rdlMem .absX 0x3412),
    ([0x0F, 0x3F, 0x12, 0x34], .rdlMem .absY 0x3412)] : List (List Nat × Instr)).all
    (fun p => decoded (p.1.map (BitVec.ofNat 8)) == some p.2) = true := by decide +kernel

theorem test_decode_ext_row_4 : ([
    ([0x0F, 0x41, 0x12, 0x34], .pea .quadAbsY 0x3412), ([0x0F, 0x43], .psh), ([0x0F, 0x44, 0x12], .adsImm 0x12),
    ([0x0F, 0x46, 0x12], .leaZp 0x12), ([0x0F, 0x48], .phb), ([0x0F, 0x49], .eorIndE), ([0x0F, 0x4C], .jmpIndE),
    ([0x0F, 0x4D], .lsrIndE), ([0x0F, 0x4F, 0x12, 0x34], .lsrAbsY 0x3412)] : List (List Nat × Instr)).all
    (fun p => decoded (p.1.map (BitVec.ofNat 8)) == some p.2) = true := by decide +kernel

theorem test_decode_ext_row_5 : ([
    ([0x0F, 0x50, 0x12], .blts 0x12), ([0x0F, 0x51, 0x12, 0x34], .pea .quadAbsX 0x3412),
    ([0x0F, 0x52, 0x12, 0x34], .pea .quadAbs 0x3412), ([0x0F, 0x53], .pll), ([0x0F, 0x54], .ads),
    ([0x0F, 0x56, 0x12], .leaZpX 0x12), ([0x0F, 0x58], .prb), ([0x0F, 0x59, 0x12], .ldb 0x12)] : List (List Nat × Instr)).all
    (fun p => decoded (p.1.map (BitVec.ofNat 8)) == some p.2) = true := by decide +kernel

theorem test_decode_ext_row_6 : ([
    ([0x0F, 0x61, 0x12, 0x34], .leaQuadAbsY 0x3412), ([0x0F, 0x63], .rmb), ([0x0F, 0x64, 0x12], .adbImm 0x12),
    ([0x0F, 0x66, 0x12], .rdrMem .zp 0x12), ([0x0F, 0x68], .plb), ([0x0F, 0x69], .adcIndE), ([0x0F, 0x6A], .rdr),
    ([0x0F, 0x6C, 0x12, 0x34, 0x56, 0x78], .jmpLong 0x78563412), ([0x0F, 0x6D], .rorIndE),
    ([0x0F, 0x6E, 0x12, 0x34], .rdrMem .abs 0x3412), ([0x0F, 0x6F, 0x12, 0x34], .rorAbsY 0x3412)] : List (List Nat × Instr)).all
    (fun p => decoded (p.1.map (BitVec.ofNat 8)) == some p.2) = true := by decide +kernel

theorem test_decode_ext_row_7 : ([
    ([0x0F, 0x70, 0x12], .bges 0x12), ([0x0F, 0x71, 0x12, 0x34], .leaQuadAbsX 0x3412),
    ([0x0F, 0x72, 0x12, 0x34], .leaQuadAbs 0x3412), ([0x0F, 0x73], .wmb), ([0x0F, 0x74], .adb),
    ([0x0F, 0x76, 0x12], .rdrMem .zpX 0x12), ([0x0F, 0x7D], .rdrIndE),
    ([0x0F, 0x7E, 0x12, 0x34], .rdrMem .absX 0x3412), ([0x0F, 0x7F, 0x12, 0x34], .rdrMem .absY 0x3412)] : List (List Nat × Instr)).all
    (fun p => decoded (p.1.map (BitVec.ofNat 8)) == some p.2) = true := by decide +kernel

theorem test_decode_ext_row_8 : ([
    ([0x0F, 0x80], .subIndE), ([0x0F, 0x81, 0x12], .pea .indZpX 0x12), ([0x0F, 0x82, 0x12], .pea .relByte 0x12),
    ([0x0F, 0x83], .hbs), ([0x0F, 0x84, 0x12], .subImm 0x12), ([0x0F, 0x86, 0x12], .pea .zp 0x12),
    ([0x0F, 0x88], .tae), ([0x0F, 0x89], .bitIndE), ([0x0F, 0x8A], .tys), ([0x0F, 0x8C], .styIndE),
    ([0x0F, 0x8D], .staIndE), ([0x0F, 0x8E, 0x12, 0x34], .styAbsX 0x3412)] : List (List Nat × Instr)).all
    (fun p => decoded (p.1.map (BitVec.ofNat 8)) == some p.2) = true := by decide +kernel

theorem test_decode_ext_row_9 : ([
    ([0x0F, 0x90, 0x12], .ble 0x12), ([0x0F, 0x91, 0x12], .pea .indZpY 0x12), ([0x0F, 0x92, 0x12], .pea .indZp 0x12),
    ([0x0F, 0x93], .hbc), ([0x0F, 0x96, 0x12], .pea .zpX 0x12), ([0x0F, 0x98], .tea), ([0x0F, 0x9A], .sxy),
    ([0x0F, 0x9C], .stzIndE), ([0x0F, 0x9D], .stxIndE), ([0x0F, 0x9F, 0x12, 0x34], .stzAbsY 0x3412)] : List (List Nat × Instr)).all
    (fun p => decoded (p.1.map (BitVec.ofNat 8)) == some p.2) = true := by decide +kernel

theorem test_decode_ext_row_A : ([
    ([0x0F, 0xA0], .ldyIndE), ([0x0F, 0xA1, 0x12], .leaIndZpX 0x12), ([0x0F, 0xA2, 0x12], .leaRelByte 0x12),
    ([0x0F, 0xA3], .inv), ([0x0F, 0xA4, 0x12], .sbeImm 0x12), ([0x0F, 0xA8], .sab), ([0x0F, 0xA9], .ldaIndE),
    ([0x0F, 0xAD], .ldxIndE), ([0x0F, 0xAE, 0x12, 0x34], .leaAbs 0x3412), ([0x0F, 0xAF, 0x12, 0x34], .stxAbsY 0x3412)] : List (List Nat × Instr)).all
    (fun p => decoded (p.1.map (BitVec.ofNat 8)) == some p.2) = true := by decide +kernel

theorem test_decode_ext_row_B : ([
    ([0x0F, 0xB0, 0x12], .bgt 0x12), ([0x0F, 0xB1, 0x12], .leaIndZpY 0x12), ([0x0F, 0xB2, 0x12], .leaIndZp 0x12),
    ([0x0F, 0xB3], .bcn), ([0x0F, 0xB4], .sbe), ([0x0F, 0xB8], .seb), ([0x0F, 0xBA], .sax),
    ([0x0F, 0xBE, 0x12, 0x34], .leaAbsX 0x3412), ([0x0F, 0xBF, 0x12, 0x34], .leaAbsY 0x3412)] : List (List Nat × Instr)).all
    (fun p => decoded (p.1.map (BitVec.ofNat 8)) == some p.2) = true := by decide +kernel

theorem test_decode_ext_row_C : ([
    ([0x0F, 0xC0], .cpyIndE), ([0x0F, 0xC1, 0x12], .pea .quadZpY 0x12), ([0x0F, 0xC3], .extOp),
    ([0x0F, 0xC4, 0x12], .sbsImm 0x12), ([0x0F, 0xC8], .tpa), ([0x0F, 0xC9], .cmpIndE), ([0x0F, 0xCA], .tsy),
    ([0x0F, 0xCD], .decIndE), ([0x0F, 0xCE, 0x12, 0x34], .pea .abs 0x3412),
    ([0x0F, 0xCF, 0x12, 0x34], .decAbsY 0x3412)] : List (List Nat × Instr)).all
    (fun p => decoded (p.1.map (BitVec.ofNat 8)) == some p.2) = true := by decide +kernel

theorem test_decode_ext_row_D : ([
    ([0x0F, 0xD0, 0x12], .bles 0x12), ([0x0F, 0xD1, 0x12], .pea .quadZpX 0x12),
    ([0x0F, 0xD2, 0x12], .pea .quadZp 0x12), ([0x0F, 0xD3], .swp), ([0x0F, 0xD4], .sbs),
    ([0x0F, 0xD6, 0x12], .pea .zpY 0x12), ([0x0F, 0xD8], .sae), ([0x0F, 0xDA], .say),
    ([0x0F, 0xDC, 0x12, 0x34, 0x56, 0x78], .jsrLong 0x78563412), ([0x0F, 0xDE, 0x12, 0x34], .pea .absX 0x3412),
    ([0x0F, 0xDF, 0x12, 0x34], .pea .absY 0x3412)] : List (List Nat × Instr)).all
    (fun p => decoded (p.1.map (BitVec.ofNat 8)) == some p.2) = true := by decide +kernel

theorem test_decode_ext_row_E : ([
    ([0x0F, 0xE0], .cpxIndE), ([0x0F, 0xE1, 0x12], .leaQuadZpY 0x12), ([0x0F, 0xE4, 0x12], .sbbImm 0x12),
    ([0x0F, 0xE8], .tab), ([0x0F, 0xE9], .sbcIndE), ([0x0F, 0xEA], .teb), ([0x0F, 0xEC], .rmbIndE),
    ([0x0F, 0xED], .incIndE), ([0x0F, 0xEF, 0x12, 0x34], .incAbsY 0x3412)] : List (List Nat × Instr)).all
    (fun p => decoded (p.1.map (BitVec.ofNat 8)) == some p.2) = true := by decide +kernel

theorem test_decode_ext_row_F : ([
    ([0x0F, 0xF0, 0x12], .bgts 0x12), ([0x0F, 0xF1, 0x12], .leaQuadZpX 0x12), ([0x0F, 0xF2, 0x12], .leaQuadZp 0x12),
    ([0x0F, 0xF3], .bsw), ([0x0F, 0xF4], .sbb), ([0x0F, 0xF6, 0x12], .leaZpY 0x12), ([0x0F, 0xF8], .tba),
    ([0x0F, 0xFA], .tbe), ([0x0F, 0xFC], .wmbIndE)] : List (List Nat × Instr)).all
    (fun p => decoded (p.1.map (BitVec.ofNat 8)) == some p.2) = true := by decide +kernel

/-! ### Steps: the vectors of spec/95_test_vectors.md, each with its id -/

/-- A machine in hypervisor mode with the instruction bytes at `$1000`. -/
def machine (w : RegWidth) (aw : AddrWidth) (code : List Nat) : State :=
  ({ State.reset with opts := ⟨w, aw, true, none, .fullDescending, []⟩, pc := 0x1000 } : State).storeBytes .hypervisor 0x1000
    (code.map (BitVec.ofNat 8))

/-- Bytes placed in an environment. -/
def State.holding (s : State) (env : Mode) (a : Nat) (bs : List Nat) : State :=
  s.storeBytes env (BitVec.ofNat 64 a) (bs.map (BitVec.ofNat 8))

/-- Whether one step answers a next state of which `f` holds. -/
def after (s : State) (f : State → Bool) : Bool :=
  match step s with
  | .next t => f t
  | _ => false

/-- The bytes at an address of an environment. -/
def bytesAt (t : State) (env : Mode) (a n : Nat) : List Nat := (t.loadBytes env (BitVec.ofNat 64 a) n).map (·.toNat)

/-- EX1.1 -/
theorem test_lda_long_immediate_fills_a : after
    ({ machine .w32 .aw32 [0x23, 0xA9, 0x78, 0x56, 0x34, 0x12] with a := 0x11111111 })
    (fun t => t.a == 0x12345678 && t.p == ⟨false, false, false, false, false, false⟩) = true := by decide +kernel

/-- EX1.2 -/
theorem test_lda_long_immediate_zero_extends : after
    ({ machine .w64 .aw64 [0x23, 0xA9, 0x78, 0x56, 0x34, 0x12] with a := 0x1111111111111111 })
    (fun t => t.a == 0x0000000012345678 && t.p == ⟨false, false, false, false, false, false⟩) = true := by decide +kernel

/-- EX3.6 -/
theorem test_lda_stack_relative : after
    ({ (machine .w16 .aw16 [0x83, 0xAD, 0x34, 0x12]).holding .hypervisor 0x1334 [0x92] with sph := 0x0100 })
    (fun t => t.a == 0x0092 && t.p == ⟨true, false, false, false, false, false⟩) = true := by decide +kernel

/-- EX3.9 -/
theorem test_lda_base_zp_x_does_not_wrap : after
    ({ (machine .w16 .aw16 [0xC3, 0xB5, 0x12]).holding .hypervisor 0x4202 [0x92] with br := 0x4000, x := 0x01F0 })
    (fun t => t.a == 0x0092 && t.p == ⟨true, false, false, false, false, false⟩) = true := by decide +kernel

/-- VD7 -/
theorem test_ora_duplicate_opcode_quad_pointer : after
    ({ ((machine .w16 .aw16 [0x07, 0x13, 0x20]).holding .hypervisor 0x20 [0x00, 0x30, 0x00, 0x00, 0x00, 0x00, 0x00, 0x00]).holding .hypervisor 0x3001 [0x92] with a := 0x1101, y := 0x0001 })
    (fun t => t.a == 0x1193 && t.p == ⟨true, false, false, false, false, false⟩) = true := by decide +kernel

/-- VL9 -/
theorem test_ora_zp : after
    ({ (machine .w16 .aw16 [0x05, 0x10]).holding .hypervisor 0x10 [0x92] with a := 0x1201 })
    (fun t => t.a == 0x1293 && t.p == ⟨true, false, false, false, false, false⟩) = true := by decide +kernel

/-- VL10 -/
theorem test_ora_zp_x : after
    ({ (machine .w16 .aw16 [0x15, 0x10]).holding .hypervisor 0x14 [0x92] with a := 0x1201, x := 0x0004 })
    (fun t => t.a == 0x1293 && t.p == ⟨true, false, false, false, false, false⟩) = true := by decide +kernel

/-- VL13 -/
theorem test_and_abs_y_wraps_at_top_of_memory : after
    ({ (machine .w16 .aw16 [0x39, 0x00, 0xF0]).holding .hypervisor 0x10 [0x0F] with a := 0x12FF, y := 0x1010 })
    (fun t => t.a == 0x120F && t.p == ⟨false, false, false, false, false, false⟩) = true := by decide +kernel

/-- VL14 -/
theorem test_eor_ind_zp_x : after
    ({ ((machine .w16 .aw16 [0x41, 0x20]).holding .hypervisor 0x24 [0x00, 0x30]).holding .hypervisor 0x3000 [0x0F] with a := 0x12FF, x := 0x0004 })
    (fun t => t.a == 0x12F0 && t.p == ⟨true, false, false, false, false, false⟩) = true := by decide +kernel

/-- VL18 -/
theorem test_ora_ind_zp_long_pointer : after
    ({ ((machine .w32 .aw32 [0x07, 0x12, 0x20]).holding .hypervisor 0x20 [0x00, 0x00, 0x01, 0x00]).holding .hypervisor 0x10000 [0x0F] with a := 0x00001200 })
    (fun t => t.a == 0x0000120F && t.p == ⟨false, false, false, false, false, false⟩) = true := by decide +kernel

/-- VA10 -/
theorem test_adc_zp : after
    ({ (machine .w16 .aw16 [0x65, 0x10]).holding .hypervisor 0x10 [0x02] with a := 0x1201 })
    (fun t => t.a == 0x1203 && t.p == ⟨false, false, false, false, false, false⟩) = true := by decide +kernel

/-- VA25 -/
theorem test_cpy_zp : after
    ({ (machine .w16 .aw16 [0xC4, 0x10]).holding .hypervisor 0x10 [0x02] with y := 0x0001 })
    (fun t => t.p == ⟨true, false, false, false, false, false⟩) = true := by decide +kernel

/-- VA27 -/
theorem test_bit_zp_takes_n_v_from_operand : after
    ({ (machine .w16 .aw16 [0x24, 0x10]).holding .hypervisor 0x10 [0x92] with a := 0x120F })
    (fun t => t.p == ⟨true, false, false, false, false, false⟩) = true := by decide +kernel

/-- VA28 -/
theorem test_bit_zp_sets_z_and_v : after
    ({ (machine .w16 .aw16 [0x24, 0x10]).holding .hypervisor 0x10 [0x40] with a := 0x120F })
    (fun t => t.p == ⟨false, true, false, false, true, false⟩) = true := by decide +kernel

/-- VM3 -/
theorem test_lda_without_extension_keeps_upper_byte : after
    ({ machine .w16 .aw16 [0x0B, 0xA9, 0x92] with a := 0x1234 })
    (fun t => t.a == 0x1292 && t.p == ⟨true, false, false, false, false, false⟩) = true := by decide +kernel

/-- VM4 -/
theorem test_lda_sign_extension_flags_from_byte : after
    ({ machine .w16 .aw16 [0x2B, 0xA9, 0x92] with a := 0x1234 })
    (fun t => t.a == 0xFF92 && t.p == ⟨true, false, false, false, false, false⟩) = true := by decide +kernel

/-- VM6 -/
theorem test_lda_ones_extension : after
    ({ machine .w16 .aw16 [0x6B, 0xA9, 0x12] with a := 0x0000 })
    (fun t => t.a == 0xFF12 && t.p == ⟨false, false, false, false, false, false⟩) = true := by decide +kernel

/-- VM8 -/
theorem test_lda_nf_keeps_flags : after
    ({ machine .w16 .aw16 [0x5B, 0xA9, 0x92] with a := 0x1234, p := ⟨false, false, false, false, true, false⟩ })
    (fun t => t.a == 0x0092 && t.p == ⟨false, false, false, false, true, false⟩) = true := by decide +kernel

/-- VM13 -/
theorem test_ldx_immediate : after
    ({ machine .w16 .aw16 [0xA2, 0x80] with x := 0x1234 })
    (fun t => t.x == 0x0080 && t.p == ⟨true, false, false, false, false, false⟩) = true := by decide +kernel

/-- VM16 -/
theorem test_ldx_zp_y : after
    ({ (machine .w16 .aw16 [0xB6, 0x10]).holding .hypervisor 0x14 [0x7F] with y := 0x0004, x := 0x1111 })
    (fun t => t.x == 0x007F && t.p == ⟨false, false, false, false, false, false⟩) = true := by decide +kernel

/-- VM20 -/
theorem test_lda_ind_abs_y : after
    ({ ((machine .w16 .aw16 [0x42, 0x00, 0x20]).holding .hypervisor 0x2000 [0x00, 0x30]).holding .hypervisor 0x3002 [0x92] with y := 0x0002, a := 0x1111 })
    (fun t => t.a == 0x0092 && t.p == ⟨true, false, false, false, false, false⟩) = true := by decide +kernel

/-- VM21 -/
theorem test_lda_ind_abs_x : after
    ({ ((machine .w16 .aw16 [0x62, 0x00, 0x20]).holding .hypervisor 0x2002 [0x00, 0x30]).holding .hypervisor 0x3000 [0x92] with x := 0x0002, a := 0x1111 })
    (fun t => t.a == 0x0092 && t.p == ⟨true, false, false, false, false, false⟩) = true := by decide +kernel

/-- VM22 -/
theorem test_lda_base_moves_pointer_only : after
    ({ ((machine .w16 .aw16 [0xC3, 0xB1, 0x12]).holding .hypervisor 0x4012 [0x00, 0x30]).holding .hypervisor 0x3001 [0x92] with br := 0x4000, y := 0x0001, a := 0x1111 })
    (fun t => t.a == 0x0092 && t.p == ⟨true, false, false, false, false, false⟩) = true := by decide +kernel

/-- VM25 -/
theorem test_sta_zp_one_byte : after
    ({ machine .w16 .aw16 [0x85, 0x10] with a := 0x1292, p := ⟨false, false, false, false, true, false⟩ })
    (fun t => t.p == ⟨false, false, false, false, true, false⟩ && bytesAt t .hypervisor 0x10 1 == [0x92]) = true := by decide +kernel

/-- VM26 -/
theorem test_sta_word_low_byte_first : after
    ({ machine .w16 .aw16 [0x13, 0x8D, 0x00, 0x20] with a := 0x1292 })
    (fun t => bytesAt t .hypervisor 0x2000 2 == [0x92, 0x12]) = true := by decide +kernel

/-- VM29 -/
theorem test_stx_zp_y : after
    ({ machine .w16 .aw16 [0x96, 0x10] with x := 0x12AB, y := 0x0002 })
    (fun t => bytesAt t .hypervisor 0x12 1 == [0xAB]) = true := by decide +kernel

/-- VM30 -/
theorem test_sty_abs_x : after
    ({ machine .w16 .aw16 [0x0F, 0x8E, 0x00, 0x20] with y := 0x12CD, x := 0x0002 })
    (fun t => bytesAt t .hypervisor 0x2002 1 == [0xCD]) = true := by decide +kernel

/-- VM31 -/
theorem test_stz_word_zp_x : after
    ({ (machine .w16 .aw16 [0x13, 0x74, 0x10]).holding .hypervisor 0x12 [0xFF, 0xFF, 0xFF] with x := 0x0002 })
    (fun t => bytesAt t .hypervisor 0x12 2 == [0x00, 0x00]) = true := by decide +kernel

/-- VM34 -/
theorem test_sta_into_user_environment : after
    ({ machine .w16 .aw16 [0x8B, 0x85, 0x10] with a := 0x1292 })
    (fun t => bytesAt t .user 0x10 1 == [0x92]) = true := by decide +kernel

/-- VM36 -/
theorem test_sta_wraps_at_top_of_memory : after
    ({ machine .w16 .aw16 [0x13, 0x8D, 0xFF, 0xFF] with a := 0x1292 })
    (fun t => bytesAt t .hypervisor 0x0 1 == [0x12] && bytesAt t .hypervisor 0xFFFF 1 == [0x92]) = true := by decide +kernel

/-- VT1 -/
theorem test_tax_zero_extends : after
    ({ machine .w16 .aw16 [0xAA] with a := 0x1292, x := 0x5555 })
    (fun t => t.x == 0x0092 && t.p == ⟨true, false, false, false, false, false⟩) = true := by decide +kernel

/-- VT4 -/
theorem test_tax_sign_extends : after
    ({ machine .w16 .aw16 [0x2B, 0xAA] with a := 0x1292, x := 0x5555 })
    (fun t => t.x == 0xFF92 && t.p == ⟨true, false, false, false, false, false⟩) = true := by decide +kernel

/-- VT8 -/
theorem test_tsx_reads_hypervisor_stack_pointer : after
    ({ machine .w16 .aw16 [0xBA] with sph := 0x01FD, spu := 0x02AA, x := 0x1234 })
    (fun t => t.x == 0x00FD && t.p == ⟨true, false, false, false, false, false⟩) = true := by decide +kernel

/-- VT10 -/
theorem test_tsx_um_reads_user_stack_pointer : after
    ({ machine .w16 .aw16 [0x13, 0xCB, 0xBA] with sph := 0x01FD, spu := 0x02AA, x := 0x1234 })
    (fun t => t.x == 0x02AA && t.p == ⟨false, false, false, false, false, false⟩) = true := by decide +kernel

/-- VT11 -/
theorem test_tsx_in_user_mode_reads_user_stack_pointer : after
    ({ ({ State.reset with opts := ⟨.w16, .aw16, true, none, .fullDescending, []⟩, mode := .user, pc := 0x1000 } : State).holding .user 0x1000 [0xBA] with sph := 0x01FD, spu := 0x02AA, x := 0x1234 })
    (fun t => t.x == 0x00AA && t.p == ⟨true, false, false, false, false, false⟩) = true := by decide +kernel

/-- VT12 -/
theorem test_txs_writes_no_flag : after
    ({ machine .w16 .aw16 [0x9A] with x := 0x12FF, sph := 0x5555, p := ⟨false, false, false, false, true, false⟩ })
    (fun t => t.sph == 0x00FF && t.p == ⟨false, false, false, false, true, false⟩) = true := by decide +kernel

/-- VT16 -/
theorem test_pha_word : after
    ({ machine .w16 .aw16 [0x13, 0x48] with a := 0x1292, sph := 0x01FF })
    (fun t => t.sph == 0x01FD && bytesAt t .hypervisor 0x1FD 2 == [0x92, 0x12]) = true := by decide +kernel

/-- VT17 -/
theorem test_pha_empty_descending : after
    ({ machine .w16 .aw16 [0x48] with a := 0x1292, sph := 0x01FF, opts := ⟨.w16, .aw16, true, none, .emptyDescending, []⟩ })
    (fun t => t.sph == 0x01FE && bytesAt t .hypervisor 0x1FF 1 == [0x92]) = true := by decide +kernel

/-- VT18 -/
theorem test_pha_on_user_stack : after
    ({ machine .w16 .aw16 [0x8B, 0x48] with a := 0x1292, sph := 0x01FF, spu := 0x02FF })
    (fun t => t.spu == 0x02FE && bytesAt t .user 0x2FE 1 == [0x92]) = true := by decide +kernel

/-- VT20 -/
theorem test_php_status_byte : after
    ({ machine .w16 .aw16 [0x08] with sph := 0x01FF, p := ⟨true, false, false, false, false, true⟩ })
    (fun t => t.sph == 0x01FE && bytesAt t .hypervisor 0x1FE 1 == [0xB1]) = true := by decide +kernel

/-- VT22 -/
theorem test_pla_zero_extends : after
    ({ (machine .w16 .aw16 [0x68]).holding .hypervisor 0x1FE [0x92] with a := 0x5555, sph := 0x01FE })
    (fun t => t.a == 0x0092 && t.sph == 0x01FF && t.p == ⟨true, false, false, false, false, false⟩) = true := by decide +kernel

/-- VT24 -/
theorem test_plx_word : after
    ({ (machine .w16 .aw16 [0x13, 0xFA]).holding .hypervisor 0x1FD [0x34, 0x12] with x := 0x5555, sph := 0x01FD })
    (fun t => t.x == 0x1234 && t.sph == 0x01FF && t.p == ⟨false, false, false, false, false, false⟩) = true := by decide +kernel

/-- VT26 -/
theorem test_plp : after
    ({ (machine .w16 .aw16 [0x28]).holding .hypervisor 0x1FE [0xB1] with sph := 0x01FE })
    (fun t => t.sph == 0x01FF && t.p == ⟨true, false, false, false, false, true⟩) = true := by decide +kernel

/-- VW1 -/
theorem test_asl_accumulator_keeps_bit_8 : after
    ({ machine .w16 .aw16 [0x0A] with a := 0x1292 })
    (fun t => t.a == 0x1224 && t.p == ⟨false, false, false, false, false, true⟩) = true := by decide +kernel

/-- VW4 -/
theorem test_rol_accumulator_takes_carry : after
    ({ machine .w16 .aw16 [0x2A] with a := 0x1292, p := ⟨false, false, false, false, false, true⟩ })
    (fun t => t.a == 0x1225 && t.p == ⟨false, false, false, false, false, true⟩) = true := by decide +kernel

/-- VW5 -/
theorem test_ror_accumulator_takes_carry : after
    ({ machine .w16 .aw16 [0x6A] with a := 0x1292, p := ⟨false, false, false, false, false, true⟩ })
    (fun t => t.a == 0x12C9 && t.p == ⟨true, false, false, false, false, false⟩) = true := by decide +kernel

/-- VW6 -/
theorem test_ror_nf_uses_old_carry : after
    ({ machine .w16 .aw16 [0x1B, 0x6A] with a := 0x1201, p := ⟨false, false, false, false, false, true⟩ })
    (fun t => t.a == 0x1280 && t.p == ⟨false, false, false, false, false, true⟩) = true := by decide +kernel

/-- VW11 -/
theorem test_lsr_word_memory : after
    ((machine .w16 .aw16 [0x13, 0x4E, 0x00, 0x20]).holding .hypervisor 0x2000 [0x01, 0x80])
    (fun t => t.p == ⟨false, false, false, false, false, true⟩ && bytesAt t .hypervisor 0x2000 2 == [0x00, 0x40]) = true := by decide +kernel

/-- VW14 -/
theorem test_asl_abs_y : after
    ({ (machine .w16 .aw16 [0x0F, 0x0F, 0x00, 0x20]).holding .hypervisor 0x2001 [0x40] with y := 0x0001 })
    (fun t => t.p == ⟨true, false, false, false, false, false⟩ && bytesAt t .hypervisor 0x2001 1 == [0x80]) = true := by decide +kernel

/-- VW16 -/
theorem test_inc_word_carries_into_second_byte : after
    ((machine .w16 .aw16 [0x13, 0xE6, 0x10]).holding .hypervisor 0x10 [0xFF, 0x00])
    (fun t => t.p == ⟨false, false, false, false, false, false⟩ && bytesAt t .hypervisor 0x10 2 == [0x00, 0x01]) = true := by decide +kernel

/-- VW17 -/
theorem test_dec_memory_wraps : after
    ((machine .w16 .aw16 [0xCE, 0x00, 0x20]).holding .hypervisor 0x2000 [0x00])
    (fun t => t.p == ⟨true, false, false, false, false, false⟩ && bytesAt t .hypervisor 0x2000 1 == [0xFF]) = true := by decide +kernel

/-- VW21 -/
theorem test_tsb_zp : after
    ({ (machine .w16 .aw16 [0x04, 0x10]).holding .hypervisor 0x10 [0x92] with a := 0x120F })
    (fun t => t.p == ⟨false, false, false, false, false, false⟩ && bytesAt t .hypervisor 0x10 1 == [0x9F]) = true := by decide +kernel

/-- VW22 -/
theorem test_trb_zp : after
    ({ (machine .w16 .aw16 [0x14, 0x10]).holding .hypervisor 0x10 [0x92] with a := 0x120F })
    (fun t => t.p == ⟨false, false, false, false, false, false⟩ && bytesAt t .hypervisor 0x10 1 == [0x90]) = true := by decide +kernel

/-- VW24 -/
theorem test_inx_wraps_at_8_bits : after
    ({ machine .w16 .aw16 [0xE8] with x := 0x12FF })
    (fun t => t.x == 0x1200 && t.p == ⟨false, false, false, false, true, false⟩) = true := by decide +kernel

/-- VW26 -/
theorem test_dex_below_zero : after
    ({ machine .w16 .aw16 [0xCA] with x := 0x1200 })
    (fun t => t.x == 0x12FF && t.p == ⟨true, false, false, false, false, false⟩) = true := by decide +kernel

/-- VC1 -/
theorem test_bne_taken : after
    (machine .w16 .aw16 [0xD0, 0x05])
    (fun t => t.pc == 0x1007) = true := by decide +kernel

/-- VC2 -/
theorem test_bne_not_taken : after
    ({ machine .w16 .aw16 [0xD0, 0x05] with p := ⟨false, false, false, false, true, false⟩ })
    (fun t => t.pc == 0x1002) = true := by decide +kernel

/-- VC4 -/
theorem test_bra_two_byte_offset : after
    (machine .w16 .aw16 [0x13, 0x80, 0x00, 0x01])
    (fun t => t.pc == 0x1104) = true := by decide +kernel

/-- VC9 -/
theorem test_bcs_backward_across_zero : after
    ({ ({ State.reset with opts := ⟨.w16, .aw16, true, none, .fullDescending, []⟩, mode := .hypervisor, pc := 0x10 } : State).holding .hypervisor 0x10 [0xB0, 0x80] with p := ⟨false, false, false, false, false, true⟩ })
    (fun t => t.pc == 0xFF92) = true := by decide +kernel

/-- VC12 -/
theorem test_jmp_ind_abs : after
    ((machine .w16 .aw16 [0x6C, 0x00, 0x20]).holding .hypervisor 0x2000 [0x34, 0x12])
    (fun t => t.pc == 0x1234) = true := by decide +kernel

/-- VC14 -/
theorem test_jmp_base_relative : after
    ({ machine .w16 .aw16 [0xC3, 0x4C, 0x34, 0x12] with br := 0x4000 })
    (fun t => t.pc == 0x5234) = true := by decide +kernel

/-! ### What ends a run: the vectors of spec/95_test_vectors.md -/

/-- Whether one step raises this event. -/
def raises (s : State) (f : Fault) : Bool :=
  match step s with
  | .fault g => g == f
  | _ => false

/-- Whether one step is refused so. -/
def refuses (s : State) (r : Refusal) : Bool :=
  match step s with
  | .refused q => q == r
  | _ => false

/-- VC39 -/
theorem test_brk_wide_refused : refuses (machine .w16 .aw16 [0x23, 0x00, 0x78, 0x56, 0x34, 0x12]) .widthAboveRegister = true := by
  decide +kernel
theorem test_brk_raises : raises (machine .w16 .aw16 [0x13, 0x00, 0x34, 0x12]) (.trap .brk 0x1234 0x1000 0x1004) = true := by
  decide +kernel
/-- VC40 -/
theorem test_trp_raises : raises (machine .w16 .aw16 [0xF4, 0x07]) (.trap .trp 0x07 0x1000 0x1002) = true := by decide +kernel
/-- VM35 -/
theorem test_um_aborts_in_user_mode :
    raises ({ machine .w16 .aw16 [] with mode := .user }.holding .user 0x1000 [0x8B, 0x85, 0x10])
      (.abortUmInUserMode 0x1000 0x1003) = true := by decide +kernel
/-- VD17 -/
theorem test_rti_refused : refuses (machine .w16 .aw16 [0x40]) .rtiNotSpecified = true := by decide +kernel
/-- VE12 -/
theorem test_pea_refused : refuses (machine .w16 .aw16 [0x0F, 0xCE, 0x34, 0x12]) (.notSpecified "PEA") = true := by
  decide +kernel
/-- VD6 -/
theorem test_prefix2_in_opcode_position_refused :
    refuses (machine .w16 .aw16 [0x0B, 0x1B, 0xEA]) (.undecodable (.secondPrefix2 0x1B#8)) = true := by decide +kernel
/-- VM15 -/
theorem test_page_zero_wrap_refused :
    refuses { machine .w16 .aw16 [0xB5, 0x10] with x := 0x100 } .zeroPageWrap = true := by decide +kernel

/-! ### The hypotheses of the statements are met -/

/-- A record of prefix fields that a cell accepts. -/
def plainContext (l : Listed) : Context :=
  match l.am with
  | .required => ⟨some ⟨.none, .b8, true⟩, none, .std⟩
  | _ => .start

/-- A state after a fetch, for a cell. -/
def sample (l : Listed) : State :=
  { State.reset with ctx := plainContext l, pc := 0x1002, start := 0x1000, a := 0x120F, sph := 0x1FF }

/-- A state after a fetch with a given record. -/
def withRecord (p1 : Option Prefix1) (p2 : Option Prefix2) : State :=
  { State.reset with ctx := ⟨p1, p2, .std⟩, pc := 0x1002, start := 0x1000 }

theorem exists_of_after {s : State} {f : State → Bool} (h : after s f = true) : ∃ t, step s = .next t := by
  unfold after at h
  split at h
  · exact ⟨_, by assumption⟩
  · cases h

/-- Whether `exec` answers a next state of which `f` holds. -/
def execAfter (i : Instr) (s : State) (f : State → Bool) : Bool :=
  match exec i s with
  | .next t => f t
  | _ => false

theorem exists_of_execAfter {i : Instr} {s : State} {f : State → Bool} (h : execAfter i s f = true) :
    ∃ t, exec i s = .next t ∧ f t = true := by
  unfold execAfter at h
  split at h
  · exact ⟨_, by assumption, h⟩
  · cases h

/-- DecodeReadsEncoding, at the largest operand of a one-byte operand. -/
theorem witness_well_formed : WellFormed [] .start (.ldaZp 0xFF) = true := by decide
/-- EncodingReadsBack, DecodedIsWellFormed. -/
theorem witness_decodes : (decode [] .start [0xA5#8, 0xFF#8]).toOption = some (.ldaZp 0xFF, []) := by decide
/-- InstructionReadsEncoding, with all prefix bytes, the page byte and the largest operand. -/
theorem witness_instruction_well_formed :
    let c : Context := ⟨some ⟨.br, .b16, true⟩, some ⟨false, .none, true⟩, .ext⟩
    c.extend (.aslAbsY 0xFFFFFFFFFFFFFFFF) = none ∧ WellFormed [] c (.aslAbsY 0xFFFFFFFFFFFFFFFF) = true :=
  ⟨rfl, by decide +kernel⟩
/-- MisplacedPrefixRefused, both clauses. -/
theorem witness_misplaced_prefix1 :
    let c : Context := ⟨some ⟨.none, .b64, false⟩, none, .std⟩
    c.page = .std ∧ isPrefix1 0xF3#8 = true ∧ (c.prefix1 ≠ none ∨ c.prefix2 ≠ none) ∧ c.am = false := by decide
theorem witness_misplaced_prefix2 :
    let c : Context := ⟨none, some ⟨false, .none, false⟩, .std⟩
    c.page = .std ∧ isPrefix2 0x0B#8 = true ∧ c.prefix2 ≠ none := by decide
/-- StepRunsTheInstruction. -/
theorem witness_step_decodes :
    let s := machine .w16 .aw16 [0x13, 0xA9, 0x34, 0x12]
    (decodeInstruction s.opts.extMap (s.loadBytes s.cur s.pc 12)).toOption
      = some (⟨some ⟨.none, .b16, false⟩, none, .std⟩, .ldaImm 0x1234, List.replicate 8 0#8) := by decide +kernel
/-- StepRefusesUndecodable. -/
theorem witness_step_undecodable :
    let s := machine .w16 .aw16 [0x0B, 0x0B]
    (match decodeInstruction s.opts.extMap (s.loadBytes s.cur s.pc 12) with
      | .error e => e == .secondPrefix2 0x0B#8 | .ok _ => false) = true := by decide +kernel
/-- UnlistedFieldRefused: a field set that NOP does not list, and AM=1 missing. -/
theorem witness_unlisted : ¬ FieldsListed .nothing (withRecord (some ⟨.none, .b16, false⟩) none) :=
  fun h => absurd (h.rs (by decide)) (by decide)
theorem witness_am_missing : ¬ FieldsListed .nfRsUmOfLeAm1 (withRecord none none) :=
  fun h => absurd (h.amRequired rfl) (by decide)
/-- UmIsPrivileged, both clauses (LDA zp). -/
theorem witness_um_without_hypervisor :
    let s : State := { withRecord none (some ⟨true, .zero, false⟩) with opts := ⟨.w16, .aw16, false, none, .fullDescending, []⟩ }
    FieldsListed .nfRsUmOfLeAm s ∧ s.ctx.um = true ∧ s.opts.hyp = false := ⟨checkListed_eq_none.mp (by decide), rfl, rfl⟩
theorem witness_um_in_user_mode :
    let s : State := { withRecord none (some ⟨true, .zero, false⟩) with mode := .user }
    FieldsListed .nfRsUmOfLeAm s ∧ s.ctx.um = true ∧ s.opts.hyp = true ∧ s.mode = .user :=
  ⟨checkListed_eq_none.mp (by decide), rfl, rfl, rfl⟩
/-- WideOperationRefused: RS=10 on a 16-bit processor, with the fields of LDA zp and of BRK. -/
theorem witness_wide :
    let s : State := { withRecord (some ⟨.none, .b32, false⟩) none with opts := ⟨.w16, .aw16, true, none, .fullDescending, []⟩ }
    FieldsListed .nfRsUmOfLeAm s ∧ FieldsListed .onlyRs s ∧ UmAllowed s ∧ s.W < s.w :=
  ⟨checkListed_eq_none.mp (by decide), checkListed_eq_none.mp (by decide), checkUm_eq_none.mp (by decide), by decide⟩
/-- OpenParametersRefused, each clause; in the second, JSR with RS=10 on a 16-bit processor. -/
theorem witness_pcrel_unset_wide :
    let s : State := { withRecord (some ⟨.pc, .b32, false⟩) none with opts := ⟨.w16, .aw16, true, none, .fullDescending, []⟩ }
    FieldsListed .rsOfLeAm s ∧ UmAllowed s ∧ s.W < s.w ∧ s.ctx.of = .pc ∧ s.opts.pcrelBase = none :=
  ⟨checkListed_eq_none.mp (by decide), checkUm_eq_none.mp (by decide), by decide, rfl, rfl⟩
theorem witness_pcrel_unset :
    let s := withRecord (some ⟨.pc, .b8, false⟩) none
    FieldsListed .nfRsUmOfLeAm s ∧ UmAllowed s ∧ s.w ≤ s.W ∧ s.ctx.of = .pc ∧ s.opts.pcrelBase = none :=
  ⟨checkListed_eq_none.mp (by decide), checkUm_eq_none.mp (by decide), by decide, rfl, rfl⟩
theorem witness_decimal :
    let s : State := { withRecord none none with p := ⟨false, false, true, false, false, false⟩ }
    AcceptedData .nfRsUmOfLeAm s ∧ s.p.d = true := ⟨checkPrefix_eq_none.mp (by decide), rfl⟩
/-- PageZeroWrapRefused, at the first address past `$FF`: `LDA $FF,X` with X = 1, and LEA `($FF)`. -/
theorem witness_page_zero_wrap :
    let s : State := { withRecord none none with x := 1 }
    AcceptedData .nfRsUmOfLeAm s ∧ s.p.d = false ∧ ¬ InsidePageZero .zpX 0xFF s :=
  ⟨checkPrefix_eq_none.mp (by decide), rfl, fun h => absurd (h rfl rfl rfl) (by decide)⟩
theorem witness_page_zero_wrap_lea :
    Accepted .nfUmOfAm (withRecord none none) ∧ ¬ InsidePageZero .indZp 0xFF (withRecord none none) :=
  ⟨checkPrefixNoWidth_eq_none.mp (by decide), fun h => absurd (h rfl rfl rfl) (by decide)⟩
/-- SingleRefusals, each clause. -/
theorem witness_php_width :
    let s := withRecord (some ⟨.none, .b16, false⟩) none
    Accepted .rsUm s ∧ s.ctx.rs ≠ .b8 := ⟨checkPrefixNoWidth_eq_none.mp (by decide), by decide⟩
theorem witness_long_with_am :
    let s := withRecord (some ⟨.none, .b8, true⟩) none
    Accepted .umOfLeAm s ∧ Accepted .rsOfLeAm s ∧ Accepted .nfUmOfAm s ∧ s.ctx.am = true ∧ pointerSize .quadZp false = 8 :=
  ⟨checkPrefixNoWidth_eq_none.mp (by decide), checkPrefixNoWidth_eq_none.mp (by decide),
    checkPrefixNoWidth_eq_none.mp (by decide), rfl, rfl⟩
theorem witness_lea_rel_offset :
    let s := withRecord (some ⟨.br, .b8, false⟩) none
    Accepted .nfUmOfAm s ∧ s.ctx.of ≠ .none := ⟨checkPrefixNoWidth_eq_none.mp (by decide), by decide⟩
/-- JumpsRefused: `JMP abs` and `JSR abs` with LE=01, and a return address of one byte too few. -/
theorem witness_jump_le :
    let s := withRecord none (some ⟨false, .sign, false⟩)
    Accepted .umOfLeAm s ∧ Accepted .rsOfLeAm s ∧ ReturnReady s ∧ ¬ JumpReady .umOfLeAm .abs s
      ∧ ¬ JumpReady .rsOfLeAm .abs s :=
  ⟨checkPrefixNoWidth_eq_none.mp (by decide), checkPrefixNoWidth_eq_none.mp (by decide), by unfold ReturnReady; decide,
    fun h => by simpa using h.le _ rfl, fun h => by simpa using h.le _ rfl⟩
/-- JumpsRefused: `JMP abs` on 64 bits at the first address above the operand's reach. -/
theorem witness_jump_upper_bits :
    let s : State := { withRecord none none with pc := 0x10000 }
    Accepted .umOfLeAm s ∧ ¬ JumpReady .umOfLeAm .abs s :=
  ⟨checkPrefixNoWidth_eq_none.mp (by decide), fun h => absurd (h.upper (by decide)) (by decide)⟩
theorem witness_return_width :
    let s := withRecord (some ⟨.none, .b16, false⟩) none
    Accepted .rsOfLeAm s ∧ Accepted .rsAm s ∧ Accepted .onlyRs s ∧ ¬ ReturnReady s :=
  ⟨checkPrefixNoWidth_eq_none.mp (by decide), checkPrefixNoWidth_eq_none.mp (by decide),
    checkPrefixNoWidth_eq_none.mp (by decide), by unfold ReturnReady; decide⟩
/-- LogicResult, CompareResult, BitResult, LoadResult and, with an empty memory, StoreResult, ShiftAndCountMemory and
TestAndSetMemory: every form. -/
theorem witness_data_forms : ∀ f ∈ dataForms, DataReady f.listed f.mode 0x10 (sample f.listed) := by
  have h : dataForms.all (fun f => checkData f.listed f.mode 0x10 (sample f.listed) == none) = true := by decide +kernel
  exact fun f hf => checkData_eq_none.mp (by simpa using List.all_eq_true.mp h f hf)
theorem witness_empty_memory (l : Listed) : (sample l).mem.wf = true := rfl
/-- AdcResult, SbcResult: also D=0. -/
theorem witness_binary_mode (l : Listed) : (sample l).p.d = false := rfl
/-- PushResult, PullResult, TransferResult, BitAccumulatorResult, ShiftAndCountRegister: every form. -/
theorem witness_register_forms : ∀ f ∈ registerForms, AcceptedData f.listed (sample f.listed) := by
  have h : registerForms.all (fun f => checkPrefix f.listed (sample f.listed) == none) = true := by decide +kernel
  exact fun f hf => checkPrefix_eq_none.mp (by simpa using List.all_eq_true.mp h f hf)
/-- TrapsRaise: BRK with RS=01, the widest code of a 16-bit processor. -/
theorem witness_brk :
    AcceptedData .onlyRs { withRecord (some ⟨.none, .b16, false⟩) none with
      opts := ⟨.w16, .aw16, true, none, .fullDescending, []⟩ } :=
  checkPrefix_eq_none.mp (by decide)
/-- BranchResult, FlagInstructionResult, PlpResult, TrapsRaise (TRP), and PHP with RS=00: every form. -/
theorem witness_control_forms :
    ∀ f ∈ controlForms, Accepted f.listed (sample f.listed) ∧ (sample f.listed).ctx.rs = .b8 := by
  have h : controlForms.all (fun f => checkPrefixNoWidth f.listed (sample f.listed) == none
    && (sample f.listed).ctx.rs == .b8) = true := by decide +kernel
  intro f hf
  have := List.all_eq_true.mp h f hf
  simp only [Bool.and_eq_true, beq_iff_eq] at this
  exact ⟨checkPrefixNoWidth_eq_none.mp this.1, this.2⟩
/-- JmpResult, CallResult: every form of JMP and JSR. -/
theorem witness_jump_forms : ∀ f ∈ jmpForms ++ jsrForms, JumpReady f.listed f.mode (sample f.listed) := by
  have h : (jmpForms ++ jsrForms).all (fun f => checkPrefixNoWidth f.listed (sample f.listed) == none
    && (f.mode != .long || !(sample f.listed).ctx.am) && (sample f.listed).ctx.prefix2 == none
    && !(sample f.listed).ctx.um && decide (16 ≤ targetWidth f.mode (sample f.listed))) = true := by decide +kernel
  intro f hf
  have := List.all_eq_true.mp h f hf
  simp only [Bool.and_eq_true, beq_iff_eq, Bool.or_eq_true, bne_iff_ne, Bool.not_eq_true', decide_eq_true_eq] at this
  obtain ⟨⟨⟨⟨h1, h2⟩, h3⟩, h4⟩, h5⟩ := this
  refine ⟨checkPrefixNoWidth_eq_none.mp h1, fun e => h2.resolve_left (fun n => n e), fun _ => ?_, ?_, h4⟩
  · exact lt_of_lt_of_le (show (0x1002 : Nat) % 2 ^ 64 < 2 ^ 16 from by decide) (Nat.pow_le_pow_right (by decide) h5)
  · intro p hp
    rw [h3] at hp
    cases hp
/-- CallResult, RtsResult: a return address of `AW` bits; BSR accepted. -/
theorem witness_return_ready :
    ReturnReady (sample .onlyRs) ∧ Accepted .rsAm (sample .rsAm) ∧ (sample .rsAm).mem.wf = true :=
  ⟨by unfold ReturnReady; decide, checkPrefixNoWidth_eq_none.mp (by decide), rfl⟩
/-- LeaResult: every form. -/
theorem witness_lea_forms : ∀ f ∈ leaForms, LeaReady f.listed f.mode 0x10 (sample f.listed) := by
  have h : leaForms.all (fun f => checkPrefixNoWidth f.listed (sample f.listed) == none
    && (sample f.listed).ctx.of == .none && !(sample f.listed).ctx.am
    && checkZeroPage f.mode 0x10 (sample f.listed) == none) = true := by decide +kernel
  intro f hf
  have := List.all_eq_true.mp h f hf
  simp only [Bool.and_eq_true, beq_iff_eq, Bool.not_eq_true'] at this
  obtain ⟨⟨⟨h1, h2⟩, h3⟩, h4⟩ := this
  exact ⟨checkPrefixNoWidth_eq_none.mp h1, fun _ => h2, fun _ => h3, checkZeroPage_eq_none.mp h4⟩
/-- OffsetRegisterIsR134, StackAddressesAreR170: each parameter value and each OF has states. -/
theorem witness_parameters : ∀ b ∈ [PcrelBase.firstByte, .opcodeByte, .nextInstruction], ∀ k ∈
    [StackDiscipline.fullDescending, .emptyDescending],
    ∃ s : State, s.opts.pcrelBase = some b ∧ s.opts.stack = k ∧ s.ctx.of = .pc :=
  fun b _ k _ => ⟨{ withRecord (some ⟨.pc, .b8, false⟩) none with opts := ⟨.w16, .aw16, true, some b, k, []⟩ }, rfl, rfl, rfl⟩
theorem witness_offset_registers : ∀ o : OffsetReg, ∃ s : State, s.ctx.of = o :=
  fun o => ⟨withRecord (some ⟨o, .b8, false⟩) none, rfl⟩
/-- StepKeepsSettled, StepKeepsParameters: a settled state whose step is a push. -/
theorem witness_settled_step :
    let s := { machine .w16 .aw16 [0x48] with sph := 0x1FF }
    Settled s ∧ ∃ t, step s = .next t :=
  ⟨⟨by decide, by decide, by decide, by decide, by decide, by decide, by decide, by decide, by decide, rfl, rfl, rfl⟩,
    exists_of_after (f := fun _ => true) (by decide +kernel)⟩
/-- At launch no address of the user environment names location 0. -/
theorem hidden_zero {s : State} (h : s.mcu = State.reset.mcu) : s.hiddenFromUser 0 := by
  intro a ha
  simp [State.locate, State.matchcode, Matchcode.locate, h, State.reset] at ha
/-- UserModeIsConfined: a user-mode state whose step is a push, and a location hidden from it. -/
theorem witness_user_step :
    let s : State := { machine .w16 .aw16 [] with mode := .user, spu := 0x1FF }.holding .user 0x1000 [0x48]
    s.modeNow = .user ∧ (∃ t, step s = .next t) ∧ s.hiddenFromUser 0 := by
  exact ⟨by decide, exists_of_after (f := fun _ => true) (by decide +kernel), hidden_zero rfl⟩
/-- UserModeLearnsNothing: two states that differ in SPH and at a hidden location. -/
theorem witness_same_for_user :
    let s : State := { machine .w16 .aw16 [] with mode := .user }
    let t : State := { s with sph := 5, mem := s.mem.write 0 7#8 }
    s.modeNow = .user ∧ s.mem.wf = true ∧ t.mem.wf = true ∧ SameForUser s t ∧ t.mem.read 0 ≠ s.mem.read 0 := by
  refine ⟨by decide, by decide, by decide, ⟨5, _, rfl, fun loc h => ?_⟩, by decide⟩
  exact Memory.read_write_of_ne _ _ fun e => h (e ▸ hidden_zero rfl)
/-- NfKeepsFlags: INX with NF=1. -/
theorem witness_nf :
    let s := withRecord none (some ⟨false, .none, true⟩)
    s.ctx.nf = true ∧ ∃ t, exec .inx s = .next t ∧ (fun t : State => t.x == 1) t = true :=
  ⟨rfl, exists_of_execAfter (by decide +kernel)⟩
/-- ZeroPrefix1IsNeutral. -/
theorem witness_zero_prefix1 : Context.start.extend .pha = none ∧ (sample .rsUm).ctx.prefix1 = none := ⟨rfl, rfl⟩
/-- CallThenReturn: JSR abs, its eight return bytes apart, and an accepted RTS. -/
theorem witness_call_return :
    let s := sample .rsOfLeAm
    s.mem.wf = true
      ∧ (∃ t, exec (.jsrAbs 0x2000) s = .next t
        ∧ (fun t : State => checkPrefixNoWidth .onlyRs { t with ctx := .start } == none) t = true)
      ∧ Apart s s.cur (s.pushAddr false s.retBytes) s.retBytes := by
  refine ⟨rfl, exists_of_execAfter (by decide +kernel), ?_⟩
  unfold Apart
  decide
/-- PushThenPull: PHA of one byte, and an accepted PLA. -/
theorem witness_push_pull :
    let s := sample .rsUm
    s.mem.wf = true
      ∧ (∃ t, exec .pha s = .next t
        ∧ (fun t : State => checkPrefix .nfRsUmLe { t with ctx := .start } == none) t = true)
      ∧ Apart s (s.envFor s.ctx.um) (s.pushAddr s.ctx.um s.n) s.n := by
  refine ⟨rfl, exists_of_execAfter (by decide +kernel), ?_⟩
  unfold Apart
  decide

end Sys2Proof.Machine
end

section
/-! SUPPORT. What an instruction can mean, and what every step keeps. The meanings that `exec` dispatches to are few operations,
each over its own register, listed fields, addressing mode and operand. `Meaning` lists these operations once, so that a rule
about every instruction is a case split over its constructors. -/

namespace Sys2Proof.Machine

/-! ### The meanings of the instructions -/

/-- The meanings that instructions have, as functions of the state: what is left of `exec` when the instruction's own
register, listed fields, addressing mode and operand are abstracted. -/
inductive Meaning : (State → Outcome) → Prop where
  /-- The unit sets a field of the record and is no operation (R83, R444). -/
  | prefix1 (f : Prefix1) : Meaning (execPrefix1 f)
  | prefix2 (f : Prefix2) : Meaning (execPrefix2 f)
  | extPage : Meaning execExtPage
  /-- Refused in every state: RTI, the operations not described, the cells without a meaning (D25, R445 to R448). -/
  | refuse (r : Refusal) : Meaning fun _ => .refused r
  | brk (op : Word) : Meaning (execBrk op)
  | trp (op : Word) : Meaning (execTrp op)
  | logic (f : Word → Word → Word) (l : Listed) (mode : AddrMode) (op : Word) : Meaning (logicOp f l mode op)
  | adc (l : Listed) (mode : AddrMode) (op : Word) : Meaning (adcOp l mode op)
  | sbc (l : Listed) (mode : AddrMode) (op : Word) : Meaning (sbcOp l mode op)
  /-- No compare lists NF, so its flags are always written (R257). -/
  | compare (r : Reg) (l : Listed) (mode : AddrMode) (op : Word) (nf : l.nf = false) : Meaning (compareOp r l mode op)
  | bit (f : Nat → Word → Word → Flags → Flags) (l : Listed) (mode : AddrMode) (op : Word) : Meaning (bitOp f l mode op)
  | bitAcc : Meaning execBitAcc
  | load (r : Reg) (l : Listed) (mode : AddrMode) (op : Word) : Meaning (loadOp r l mode op)
  | store (r : Reg) (l : Listed) (mode : AddrMode) (op : Word) : Meaning fun s => storeOp (s.reg r) l mode op s
  | storeZero (l : Listed) (mode : AddrMode) (op : Word) : Meaning (storeOp 0 l mode op)
  | rmw (f : Rmw) (l : Listed) (mode : AddrMode) (op : Word) : Meaning (rmwOp f l mode op)
  | rmwReg (f : Rmw) (r : Reg) (l : Listed) : Meaning (rmwRegOp f r l)
  | transfer (src r : Reg) : Meaning fun s => transferOp (s.reg src) r .nfRsLe s
  | tsx : Meaning execTsx
  | txs : Meaning execTxs
  | push (r : Reg) : Meaning fun s => complete (checkPrefix .rsUm s) (pushNext (s.reg r) s)
  | pull (r : Reg) : Meaning fun s => complete (checkPrefix .nfRsUmLe s) (pullNext r s)
  | php : Meaning execPhp
  | plp : Meaning execPlp
  /-- A branch decides on the flags alone (R412). -/
  | branch (taken : Flags → Bool) (op : Word) : Meaning fun s => branchOp (taken s.p) .onlyRs op s
  | jmp (l : Listed) (mode : AddrMode) (op : Word) : Meaning (jmpOp l mode op)
  | jsr (l : Listed) (mode : AddrMode) (op : Word) : Meaning (jsrOp l mode op)
  | bsr (l : Listed) (mode : AddrMode) (op : Word) : Meaning (bsrOp l mode op)
  | rts : Meaning execRts
  /-- An instruction that sets or clears one flag. -/
  | flag (f : Flags → Flags) : Meaning fun s => complete (checkPrefixNoWidth .nothing s) (s.setFlags (f s.p))
  | nop : Meaning execNop
  /-- The refusals of LEA's own forms depend on OF and AM alone (D42, D43). -/
  | lea (mode : AddrMode) (op : Word) (own : OffsetReg → Bool → Option Stop) :
      Meaning fun s => leaOp .nfUmOfAm mode op (own s.ctx.of s.ctx.am) s

theorem Meaning.of_exec {i : Instr} {m : State → Outcome} (hm : Meaning m) (h : ∀ s, exec i s = m s) :
    Meaning (exec i) :=
  (funext h : exec i = m) ▸ hm

/-- Every instruction has one of the meanings. -/
theorem exec_meaning (i : Instr) : Meaning (exec i) := by
  cases i with
  | prefix1 f => exact .of_exec (.prefix1 f) fun _ => rfl
  | prefix2 f => exact .of_exec (.prefix2 f) fun _ => rfl
  | extPage => exact .of_exec .extPage fun _ => rfl
  | oraIndZpX | oraQuadZpX | oraZp | oraImm | oraAbs | oraIndZpY | oraIndZp | oraQuadZpY | oraZpX | oraQuadZp
  | oraAbsY | oraAbsX | andIndZpX | andQuadZpX | andZp | andImm | andAbs | andIndZpY | andIndZp | andQuadZpY
  | andZpX | andQuadZp | andAbsY | andAbsX | eorIndZpX | eorQuadZpX | eorZp | eorImm | eorAbs | eorIndZpY
  | eorIndZp | eorQuadZpY | eorZpX | eorQuadZp | eorAbsY | eorAbsX | oraIndE | andIndE | eorIndE =>
    exact .of_exec (.logic _ _ _ _) fun _ => rfl
  | bitZp | bitAbs | bitZpX | bitAbsX | bitImm | bitIndE => exact .of_exec (.bit _ _ _ _) fun _ => rfl
  | bitAcc => exact .of_exec .bitAcc fun _ => rfl
  | adcIndZpX | adcQuadZpX | adcZp | adcImm | adcAbs | adcIndZpY | adcIndZp | adcQuadZpY | adcZpX | adcQuadZp
  | adcAbsY | adcAbsX | adcIndE => exact .of_exec (.adc _ _ _) fun _ => rfl
  | sbcIndZpX | sbcQuadZpX | sbcZp | sbcImm | sbcAbs | sbcIndZpY | sbcIndZp | sbcQuadZpY | sbcZpX | sbcQuadZp
  | sbcAbsY | sbcAbsX | sbcIndE => exact .of_exec (.sbc _ _ _) fun _ => rfl
  | cpyImm | cmpIndZpX | cmpQuadZpX | cpyZp | cmpZp | cmpImm | cpyAbs | cmpAbs | cmpIndZpY | cmpIndZp
  | cmpQuadZpY | cmpZpX | cmpQuadZp | cmpAbsY | cmpAbsX | cpxImm | cpxZp | cpxAbs | cpyIndE | cmpIndE | cpxIndE =>
    exact .of_exec (.compare _ _ _ _ rfl) fun _ => rfl
  | ldaZpY | ldaIndAbsY | ldaQuadAbsY | ldaIndAbsX | ldaQuadAbsX | ldyImm | ldaIndZpX | ldxImm | ldaQuadZpX
  | ldyZp | ldaZp | ldxZp | ldaImm | ldyAbs | ldaAbs | ldxAbs | ldaIndZpY | ldaIndZp | ldaQuadZpY | ldyZpX
  | ldaZpX | ldxZpY | ldaQuadZp | ldaAbsY | ldyAbsX | ldaAbsX | ldxAbsY | ldyIndE | ldaIndE | ldxIndE =>
    exact .of_exec (.load _ _ _ _) fun _ => rfl
  | staZpY | staIndZpX | staQuadZpX | styZp | staZp | stxZp | styAbs | staAbs | stxAbs | staIndZpY | staIndZp
  | staQuadZpY | styZpX | staZpX | stxZpY | staQuadZp | staAbsY | staAbsX | staIndAbsY | staQuadAbsY | staIndAbsX
  | staQuadAbsX | styAbsX | stxAbsY | styIndE | staIndE | stxIndE =>
    exact .of_exec (.store _ _ _ _) fun _ => rfl
  | stzZp | stzZpX | stzAbs | stzAbsX | stzAbsY | stzIndE => exact .of_exec (.storeZero _ _ _) fun _ => rfl
  | tsbZp | aslZp | tsbAbs | aslAbs | trbZp | aslZpX | trbAbs | aslAbsX | rolZp | rolAbs | rolZpX | rolAbsX
  | lsrZp | lsrAbs | lsrZpX | lsrAbsX | rorZp | rorAbs | rorZpX | rorAbsX | decZp | decAbs | decZpX | decAbsX
  | incZp | incAbs | incZpX | incAbsX | aslAbsY | rolAbsY | lsrAbsY | rorAbsY | decAbsY | incAbsY | tsbIndE
  | aslIndE | trbIndE | rolIndE | lsrIndE | rorIndE | decIndE | incIndE =>
    exact .of_exec (.rmw _ _ _ _) fun _ => rfl
  | aslAcc | incAcc | rolAcc | decAcc | lsrAcc | rorAcc | dey | iny | dex | inx =>
    exact .of_exec (.rmwReg _ _ _) fun _ => rfl
  | txa | tya | tay | tax => exact .of_exec (.transfer _ _) fun _ => rfl
  | tsx => exact .of_exec .tsx fun _ => rfl
  | txs => exact .of_exec .txs fun _ => rfl
  | pha | phy | phx => exact .of_exec (.push _) fun _ => rfl
  | pla | ply | plx => exact .of_exec (.pull _) fun _ => rfl
  | php => exact .of_exec .php fun _ => rfl
  | plp => exact .of_exec .plp fun _ => rfl
  | bpl => exact .of_exec (.branch (!·.n) _) fun _ => rfl
  | bmi => exact .of_exec (.branch (·.n) _) fun _ => rfl
  | bvc => exact .of_exec (.branch (!·.v) _) fun _ => rfl
  | bvs => exact .of_exec (.branch (·.v) _) fun _ => rfl
  | bra => exact .of_exec (.branch (fun _ => true) _) fun _ => rfl
  | bcc => exact .of_exec (.branch (!·.c) _) fun _ => rfl
  | bcs => exact .of_exec (.branch (·.c) _) fun _ => rfl
  | bne => exact .of_exec (.branch (!·.z) _) fun _ => rfl
  | beq => exact .of_exec (.branch (·.z) _) fun _ => rfl
  | jmpQuadAbs | jmpQuadAbsX | jmpAbs | jmpIndAbs | jmpIndAbsX | jmpLong | jmpIndE =>
    exact .of_exec (.jmp _ _ _) fun _ => rfl
  | jsrAbs | jsrQuadAbs | jsrQuadAbsX | jsrIndAbs | jsrIndAbsX | jsrLong | jsrIndE =>
    exact .of_exec (.jsr _ _ _) fun _ => rfl
  | bsrRelWide | bsrRelByte => exact .of_exec (.bsr _ _ _) fun _ => rfl
  | rts => exact .of_exec .rts fun _ => rfl
  | clc => exact .of_exec (.flag fun p => { p with c := false }) fun _ => rfl
  | sec => exact .of_exec (.flag fun p => { p with c := true }) fun _ => rfl
  | cli => exact .of_exec (.flag fun p => { p with i := false }) fun _ => rfl
  | sei => exact .of_exec (.flag fun p => { p with i := true }) fun _ => rfl
  | clv => exact .of_exec (.flag fun p => { p with v := false }) fun _ => rfl
  | cld => exact .of_exec (.flag fun p => { p with d := false }) fun _ => rfl
  | sed => exact .of_exec (.flag fun p => { p with d := true }) fun _ => rfl
  | nop => exact .of_exec .nop fun _ => rfl
  | leaIndAbsY | leaIndAbsX | leaIndAbs | leaZp | leaZpX | leaIndZpX | leaAbs | leaIndZpY | leaIndZp | leaAbsX
  | leaAbsY | leaZpY => exact .of_exec (.lea _ _ fun _ _ => none) fun _ => rfl
  | leaRelWide | leaRelByte => exact .of_exec (.lea _ _ fun of _ => refuseIf (of != .none) .leaRelOffset) fun _ => rfl
  | leaQuadAbsY | leaQuadAbsX | leaQuadAbs | leaQuadZpY | leaQuadZpX | leaQuadZp =>
    exact .of_exec (.lea _ _ fun _ am => refuseIf am .quadWithAm) fun _ => rfl
  | brk op => exact .of_exec (.brk op) fun _ => rfl
  | trp op => exact .of_exec (.trp op) fun _ => rfl
  | pea | addImm | asrMem | bev | adeImm | rdlMem | bod | lde | adsImm | blts | ldb | adbImm | rdrMem | bges
  | subImm | ble | sbeImm | bgt | sbsImm | bles | sbbImm | bgts | sysPage | quickPage | reserved6F | reserved8F
  | reserved9F | reservedAF | reservedBF | reservedCF | reservedDF | reservedEF | reservedFF | unassigned1F
  | unassigned3F | unassigned54 | unassigned5C | unassigned5F | unassigned7F | unassignedD4 | addIndE | mvn | phe
  | asr | mvp | asrIndE | fil | ple | rdl | sca | ade | lla | rdlIndE | psh | phb | pll | ads | prb | rmb | plb
  | rdr | wmb | adb | rdrIndE | subIndE | hbs | tae | tys | hbc | tea | sxy | inv | sab | bcn | sbe | seb | sax
  | extOp | tpa | tsy | swp | sbs | sae | say | tab | teb | rmbIndE | bsw | sbb | tba | tbe | wmbIndE | rti =>
    exact .of_exec (.refuse _) fun _ => rfl

/-! ### Completion -/

/-- An instruction that completes passes on what its next state has. -/
theorem of_complete {P : State → Prop} {st : Option Stop} {u t : State} (h : complete st u = .next t) (hu : P u) : P t :=
  (complete_eq_next.mp h).2 ▸ hu

/-- BRK and TRP never complete: what passes their checks is the event they raise (R903, R904). -/
theorem complete_raise_ne_next (st : Option Stop) (x : Stop) (u t : State) : complete (st.or (some x)) u ≠ .next t := by
  intro h
  have hnone := (Stop.or_eq_none.mp (complete_eq_next.mp h).1).2
  cases hnone

/-! ### The units of a step -/

/-- The run of a unit that answers next: the unit is fetched and completes, and either more units follow or the record is
cleared. -/
theorem runUnits_succ_eq_next {n : Nat} {s t : State} (h : runUnits (n + 1) s = .next t) :
    ∃ i k u, exec i (s.fetched k) = .next u ∧ (runUnits n u = .next t ∨ t = u.endInstr) := by
  rw [runUnits] at h
  split at h
  · cases h
  · next i k _ =>
    split at h
    · next u hu =>
      refine ⟨i, k, u, hu, ?_⟩
      split at h
      · exact .inl h
      · cases h
        exact .inr rfl
    · cases h
    · cases h

/-- What every unit keeps holds when the last one has run. -/
theorem runUnits_induction {P : State → Prop}
    (hunit : ∀ (i : Instr) (k : Nat) (s u : State), P s → exec i (s.fetched k) = .next u → P u) {n : Nat} {s t : State}
    (hs : P s) (h : runUnits n s = .next t) : ∃ u, P u ∧ t = u.endInstr := by
  induction n generalizing s with
  | zero => cases h
  | succ n ih =>
    obtain ⟨i, k, u, hu, hmore | hend⟩ := runUnits_succ_eq_next h
    · exact ih (hunit i k s u hs hu) hmore
    · exact ⟨u, hunit i k s u hs hu, hend⟩

/-- A property of the state that starts an instruction and that every unit keeps holds before a step clears the record. -/
theorem step_induction {P : State → Prop} {s t : State} (hs : P s.beginInstr)
    (hunit : ∀ (i : Instr) (k : Nat) (s u : State), P s → exec i (s.fetched k) = .next u → P u) (h : step s = .next t) :
    ∃ u, P u ∧ t = u.endInstr :=
  runUnits_induction hunit hs h

/-! ### The sizes that the units of an instruction keep -/

theorem toNat_low_lt (k : Nat) (v : Word) : (low k v).toNat < 2 ^ k := low_eq_self.mp (low_low_self k v)

/-- The part of `Settled` that also holds inside an instruction: memory in its canonical form and no register wider than its
width. -/
structure Sized (s : State) : Prop where
  mem : s.mem.wf = true
  a : s.a.toNat < 2 ^ s.W
  x : s.x.toNat < 2 ^ s.W
  y : s.y.toNat < 2 ^ s.W
  sph : s.sph.toNat < 2 ^ s.W
  spu : s.spu.toNat < 2 ^ s.W
  br : s.br.toNat < 2 ^ s.W
  e : s.e.toNat < 2 ^ s.W
  pc : s.pc.toNat < 2 ^ s.AW

theorem Settled.sized {s : State} (h : Settled s) : Sized s := { h with }

namespace Sized

variable {s t : State} (hs : Sized s)
include hs

theorem withContext (c : Context) : Sized { s with ctx := c } := { hs with }

theorem setFlags (p : Flags) : Sized (s.setFlags p) := { hs with }

theorem updateFlags (p : Flags) : Sized (s.updateFlags p) := by
  unfold State.updateFlags
  split
  · exact hs
  · exact hs.setFlags p

theorem drawn (k : Nat) : Sized (s.drawn k) := { hs with }

theorem setReg (r : Reg) (v : Word) : Sized (s.setReg r v) := by
  cases r with
  | a => exact { hs with a := toNat_low_lt _ _ }
  | x => exact { hs with x := toNat_low_lt _ _ }
  | y => exact { hs with y := toNat_low_lt _ _ }

theorem setSp (um : Bool) (v : Word) : Sized (s.setSp um v) := by
  unfold State.setSp
  split
  · exact { hs with spu := toNat_low_lt _ _ }
  · exact { hs with sph := toNat_low_lt _ _ }

theorem setPc (v : Word) : Sized (s.setPc v) := { hs with pc := toNat_low_lt _ _ }

theorem setE (v : Word) : Sized (s.setE v) := { hs with e := toNat_low_lt _ _ }

theorem memWrite (env : Mode) (a : Word) (n : Nat) (v : Word) : Sized (s.memWrite env a n v) := by
  have hmem := State.memWrite_wf hs.mem env a n v
  rw [State.memWrite_eq]
  exact { hs with mem := hmem }

theorem push (um : Bool) (k : Nat) (v : Word) : Sized (s.push um k v) := (hs.memWrite _ _ _ _).setSp _ _

theorem afterPull (um : Bool) (k : Nat) : Sized (s.afterPull um k) := hs.setSp _ _

theorem beginInstr : Sized s.beginInstr := { hs with pc := toNat_low_lt _ _ }

theorem fetched (k : Nat) : Sized (s.fetched k) := { hs with pc := toNat_low_lt _ _ }

/-- The end of an instruction clears its record, and the state is settled again (R33). -/
theorem endInstr : Settled s.endInstr := { hs with ctx := rfl, start := rfl, opcodeAt := rfl }

theorem bitAccNext : Sized (bitAccNext s) := by
  unfold Machine.bitAccNext
  split
  · exact hs
  · exact (hs.setFlags _).drawn 1

theorem leaNext (mode : AddrMode) (op : Word) : Sized (leaNext mode op s) := by
  unfold Machine.leaNext
  split
  · exact hs.setE _
  · exact ((hs.setE _).setFlags _).drawn 2

theorem branchNext (taken : Bool) (op : Word) : Sized (branchNext taken op s) := by
  unfold Machine.branchNext
  split
  · exact hs.setPc _
  · exact hs

/-- Whatever an instruction means, it keeps the sizes if it completes. -/
theorem of_meaning {m : State → Outcome} (hm : Meaning m) (h : m s = .next t) : Sized t := by
  cases hm with
  | prefix1 | prefix2 | extPage =>
    cases h
    exact hs.withContext _
  | refuse => cases h
  | brk | trp => exact absurd h (complete_raise_ne_next _ _ _ _)
  | logic | adc | sbc | load | rmwReg | transfer | tsx => exact of_complete h ((hs.setReg _ _).updateFlags _)
  | compare | flag => exact of_complete h (hs.setFlags _)
  | bit => exact of_complete h (hs.updateFlags _)
  | bitAcc => exact of_complete h hs.bitAccNext
  | store | storeZero => exact of_complete h (hs.memWrite _ _ _ _)
  | rmw => exact of_complete h ((hs.memWrite _ _ _ _).updateFlags _)
  | txs => exact of_complete h (hs.setSp _ _)
  | push | php => exact of_complete h (hs.push _ _ _)
  | pull => exact of_complete h (((hs.setReg _ _).afterPull _ _).updateFlags _)
  | plp => exact of_complete h ((hs.afterPull _ _).setFlags _)
  | branch => exact of_complete h (hs.branchNext _ _)
  | jmp => exact of_complete h (hs.setPc _)
  | jsr | bsr => exact of_complete h ((hs.push _ _ _).setPc _)
  | rts => exact of_complete h ((hs.afterPull _ _).setPc _)
  | nop => exact of_complete h hs
  | lea => exact of_complete h (hs.leaNext _ _)

end Sized

/-- Every unit that completes keeps the sizes: PC advances modulo `2^AW`, and the meaning keeps the rest (R3, R4). -/
theorem exec_keeps_sized (i : Instr) (k : Nat) (s u : State) (hs : Sized s) (h : exec i (s.fetched k) = .next u) :
    Sized u :=
  (hs.fetched k).of_meaning (exec_meaning i) h

/-! ### The statement -/

/-- Settles O49: the sizes hold from the first fetch to the last unit, and the end of the instruction clears its record. -/
theorem stepKeepsSettled : Obligations.StepKeepsSettled := by
  intro s t hs h
  obtain ⟨u, hu, rfl⟩ := step_induction hs.sized.beginInstr exec_keeps_sized h
  exact hu.endInstr

end Sys2Proof.Machine
end

section
/-! SUPPORT. What no instruction changes: the parameters, the matchcodes, the mode and BR (R24, R31, R922, R941). -/

namespace Sys2Proof.Machine

/-! ### The fixed part of the state -/

/-- The part of the state that no instruction changes: the parameters, the two matchcodes, the mode and BR. -/
structure FixedPart where
  opts : Options
  mch : Matchcode
  mcu : Matchcode
  mode : Mode
  br : Word

/-- The fixed part of a state. -/
def State.fixedPart (s : State) : FixedPart := ⟨s.opts, s.mch, s.mcu, s.mode, s.br⟩

theorem State.fixedPart_eq_iff {s t : State} : t.fixedPart = s.fixedPart ↔
    t.opts = s.opts ∧ t.mch = s.mch ∧ t.mcu = s.mcu ∧ t.mode = s.mode ∧ t.br = s.br := by
  simp [State.fixedPart]

@[simp] theorem State.fixedPart_withContext (s : State) (c : Context) :
    ({ s with ctx := c } : State).fixedPart = s.fixedPart := rfl
@[simp] theorem State.fixedPart_setReg (s : State) (r : Reg) (v : Word) :
    (s.setReg r v).fixedPart = s.fixedPart := by simp [State.fixedPart]
@[simp] theorem State.fixedPart_setSp (s : State) (um : Bool) (v : Word) :
    (s.setSp um v).fixedPart = s.fixedPart := by simp [State.fixedPart]
@[simp] theorem State.fixedPart_setPc (s : State) (v : Word) : (s.setPc v).fixedPart = s.fixedPart := rfl
@[simp] theorem State.fixedPart_setE (s : State) (v : Word) : (s.setE v).fixedPart = s.fixedPart := rfl
@[simp] theorem State.fixedPart_setFlags (s : State) (p : Flags) : (s.setFlags p).fixedPart = s.fixedPart := rfl
@[simp] theorem State.fixedPart_updateFlags (s : State) (p : Flags) :
    (s.updateFlags p).fixedPart = s.fixedPart := by simp [State.fixedPart]
@[simp] theorem State.fixedPart_drawn (s : State) (k : Nat) : (s.drawn k).fixedPart = s.fixedPart := rfl
@[simp] theorem State.fixedPart_memWrite (s : State) (env : Mode) (a : Word) (n : Nat) (v : Word) :
    (s.memWrite env a n v).fixedPart = s.fixedPart := by simp [State.fixedPart]
@[simp] theorem State.fixedPart_push (s : State) (um : Bool) (k : Nat) (v : Word) :
    (s.push um k v).fixedPart = s.fixedPart := by simp [State.push]
@[simp] theorem State.fixedPart_afterPull (s : State) (um : Bool) (k : Nat) :
    (s.afterPull um k).fixedPart = s.fixedPart := by simp [State.afterPull]
@[simp] theorem State.fixedPart_beginInstr (s : State) : s.beginInstr.fixedPart = s.fixedPart := rfl
@[simp] theorem State.fixedPart_fetched (s : State) (k : Nat) : (s.fetched k).fixedPart = s.fixedPart := rfl
@[simp] theorem State.fixedPart_endInstr (s : State) : s.endInstr.fixedPart = s.fixedPart := rfl

/-! ### The next states that are chosen by a condition -/

@[simp] theorem fixedPart_bitAccNext (s : State) : (bitAccNext s).fixedPart = s.fixedPart := by
  unfold bitAccNext
  split <;> simp

@[simp] theorem fixedPart_leaNext (mode : AddrMode) (op : Word) (s : State) :
    (leaNext mode op s).fixedPart = s.fixedPart := by
  unfold leaNext
  split <;> simp

@[simp] theorem fixedPart_branchNext (taken : Bool) (op : Word) (s : State) :
    (branchNext taken op s).fixedPart = s.fixedPart := by
  unfold branchNext
  split <;> simp

/-! ### Every meaning, every unit, every step -/

theorem fixedPart_of_complete {st : Option Stop} {s u t : State} (h : complete st u = .next t)
    (hu : u.fixedPart = s.fixedPart) : t.fixedPart = s.fixedPart :=
  of_complete (P := fun t => t.fixedPart = s.fixedPart) h hu

/-- Whatever an instruction means, it keeps the fixed part if it completes. -/
theorem Meaning.keeps_fixedPart {m : State → Outcome} (hm : Meaning m) {s t : State} (h : m s = .next t) :
    t.fixedPart = s.fixedPart := by
  cases hm with
  | prefix1 | prefix2 | extPage =>
    cases h
    exact s.fixedPart_withContext _
  | refuse => cases h
  | brk | trp => exact absurd h (complete_raise_ne_next _ _ _ _)
  | logic | adc | sbc | load | rmwReg | transfer | tsx =>
    exact fixedPart_of_complete h ((State.fixedPart_updateFlags _ _).trans (State.fixedPart_setReg _ _ _))
  | compare | flag => exact fixedPart_of_complete h (State.fixedPart_setFlags _ _)
  | bit => exact fixedPart_of_complete h (State.fixedPart_updateFlags _ _)
  | bitAcc => exact fixedPart_of_complete h (fixedPart_bitAccNext s)
  | store | storeZero => exact fixedPart_of_complete h (State.fixedPart_memWrite _ _ _ _ _)
  | rmw => exact fixedPart_of_complete h ((State.fixedPart_updateFlags _ _).trans (State.fixedPart_memWrite _ _ _ _ _))
  | txs => exact fixedPart_of_complete h (State.fixedPart_setSp _ _ _)
  | push | php => exact fixedPart_of_complete h (State.fixedPart_push _ _ _ _)
  | pull => exact fixedPart_of_complete h (by simp [pullNext])
  | plp => exact fixedPart_of_complete h (by simp [plpNext])
  | branch => exact fixedPart_of_complete h (fixedPart_branchNext _ _ _)
  | jmp => exact fixedPart_of_complete h (State.fixedPart_setPc _ _)
  | jsr | bsr => exact fixedPart_of_complete h ((State.fixedPart_setPc _ _).trans (State.fixedPart_push _ _ _ _))
  | rts => exact fixedPart_of_complete h ((State.fixedPart_setPc _ _).trans (State.fixedPart_afterPull _ _ _))
  | nop => exact fixedPart_of_complete h rfl
  | lea => exact fixedPart_of_complete h (fixedPart_leaNext _ _ _)

/-- Every step keeps the fixed part: the first fetch, each unit and the end of the instruction do. -/
theorem step_keeps_fixedPart {s t : State} (h : step s = .next t) : t.fixedPart = s.fixedPart := by
  obtain ⟨u, hu, rfl⟩ := step_induction (P := fun u => u.fixedPart = s.fixedPart) s.fixedPart_beginInstr
    (fun i k r u hr hu => ((exec_meaning i).keeps_fixedPart hu).trans ((r.fixedPart_fetched k).trans hr)) h
  exact hu

/-- Settles O51, by the fixed part of the state. -/
theorem stepKeepsParameters : Obligations.StepKeepsParameters :=
  fun _ _ h => State.fixedPart_eq_iff.mp (step_keeps_fixedPart h)

end Sys2Proof.Machine
end

section
/-! SUPPORT. The stack operations in the terms of the statements, and the pushes and PLP (R29, R170, R350 to R353, R362). -/

namespace Sys2Proof.Machine

/-! ### Widths and the stack pointer -/

theorem State.W_cases (s : State) : s.W = 16 ∨ s.W = 32 ∨ s.W = 64 := by
  unfold State.W
  cases s.opts.regWidth <;> simp [RegWidth.bits]

theorem State.n_le_eight (s : State) : s.n ≤ 8 := by
  unfold State.n
  cases s.ctx.rs <;> simp [OpSize.bytes]

/-- Stack-pointer arithmetic is modulo `2^W`, downwards (R170). -/
theorem State.low_sp_sub (s : State) (um : Bool) {k : Nat} (hk : k ≤ 8) :
    low s.W (s.sp um - BitVec.ofNat 64 k) = s.spAfterPush um k := by
  apply BitVec.eq_of_toNat_eq
  rw [State.sp_eq, State.spAfterPush, value, toNat_low, BitVec.toNat_sub, toNat_low, BitVec.toNat_ofNat, BitVec.toNat_ofNat]
  obtain hw | hw | hw := s.W_cases <;> rw [hw] <;> omega

/-- Stack-pointer arithmetic is modulo `2^W`, upwards (R170). -/
theorem State.low_sp_add (s : State) (um : Bool) (k : Nat) :
    low s.W (s.sp um + BitVec.ofNat 64 k) = s.spAfterPull um k := by
  apply BitVec.eq_of_toNat_eq
  rw [State.sp_eq, State.spAfterPull, value, toNat_low, BitVec.toNat_add, toNat_low, BitVec.toNat_ofNat, BitVec.toNat_ofNat]
  obtain hw | hw | hw := s.W_cases <;> rw [hw] <;> omega

/-- A pull moves its stack pointer and nothing else. -/
theorem State.afterPull_eq (s : State) (um : Bool) (k : Nat) : s.afterPull um k = s.withSp um (s.spAfterPull um k) := by
  rw [State.afterPull, State.setSp_eq, State.low_sp_add]

theorem State.setFlags_withSp (s : State) (um : Bool) (v : Word) (p : Flags) :
    (s.withSp um v).setFlags p = ({ s with p := p } : State).withSp um v := by
  unfold State.withSp
  split <;> rfl

theorem State.memRead_one (s : State) (env : Mode) (a : Word) : s.memRead env a 1 = (s.byteAt env a).setWidth 64 := by
  simp [State.memRead]

/-! ### Pushes -/

/-- The bytes of `v[k-1:0]` are those of `v`. -/
theorem byte_low {k i : Nat} (h : 8 * i + 8 ≤ k) (v : Word) :
    (low k v >>> (8 * i)).setWidth 8 = (v >>> (8 * i)).setWidth 8 := by
  apply BitVec.eq_of_getLsbD_eq
  intro j hj
  have hlt : 8 * i + j < k := by omega
  simp [getLsbD_low, hlt]

/-- Only the low `8n` bits of the value reach memory (R52). -/
theorem Stored.of_low {s : State} {env : Mode} {a : Word} {n k : Nat} {v : Word} {m : Memory} (hk : 8 * n ≤ k)
    (h : Stored s env a n (low k v) m) : Stored s env a n v m where
  others := h.others
  bytes i hi hlater := (h.bytes i hi hlater).trans (byte_low (by omega) v)

/-- An instruction that completes with a push of at most eight bytes does what `Pushes` says. -/
theorem pushes_of_exec {i : Instr} {s : State} {um : Bool} {k : Nat} {v : Word} (hmem : s.mem.wf = true) (hk : k ≤ 8)
    (h : exec i s = .next (s.push um k v)) : Pushes i um k v s :=
  ⟨_, by rw [h, State.push_eq, State.low_sp_sub s um hk], State.memWrite_stored hmem _ _ _ _⟩

/-- Pushing the `W` bits of a field is pushing the field, where the bytes pushed fit in `W` bits. -/
theorem Pushes.of_low {i : Instr} {s : State} {um : Bool} {k : Nat} {v : Word} (hw : 8 * k ≤ s.W)
    (h : Pushes i um k (low s.W v) s) : Pushes i um k v s := by
  obtain ⟨m, hexec, hstored⟩ := h
  exact ⟨m, hexec, hstored.of_low hw⟩

/-- An instruction with the meaning of a register push puts `n` bytes of the register on the stack (R352). -/
theorem pushes_register {i : Instr} {r : Reg} {s : State}
    (hi : exec i s = complete (checkPrefix .rsUm s) (pushNext (s.reg r) s)) (hmem : s.mem.wf = true)
    (hs : AcceptedData .rsUm s) : Pushes i s.ctx.um s.n (s.cellOf r) s := by
  rw [checkPrefix_eq_none.mpr hs, complete_none, s.reg_eq r] at hi
  exact (pushes_of_exec hmem s.n_le_eight hi).of_low hs.width

/-- PHP on an accepted state with RS=00 pushes the status byte (R350). -/
theorem exec_php_accepted {s : State} (hs : Accepted .rsUm s) (hrs : s.ctx.rs = .b8) :
    exec .php s = .next (s.push s.ctx.um 1 ((statusByte s.p).setWidth 64)) := by
  have hnone : (checkPrefixNoWidth .rsUm s).or (refuseIf (s.ctx.rs != .b8) .phpWidth) = none :=
    Stop.or_eq_none.mpr ⟨checkPrefixNoWidth_eq_none.mpr hs, refuseIf_eq_none.mpr (by simp [hrs])⟩
  change execPhp s = _
  rw [execPhp, hnone, complete_none, phpNext]

/-- The status byte is `N V 1 1 D I Z C` from bit 7 down (R29). -/
theorem statusByte_bits (p : Flags) :
    let b : Word := (statusByte p).setWidth 64
    [b.getLsbD 7, b.getLsbD 6, b.getLsbD 5, b.getLsbD 4, b.getLsbD 3, b.getLsbD 2, b.getLsbD 1, b.getLsbD 0]
      = [p.n, p.v, true, true, p.d, p.i, p.z, p.c] := by
  obtain ⟨n, v, d, i, z, c⟩ := p
  revert n v d i z c
  decide

/-- Settles O33: each instruction completes with one push, whose value and stack pointer are those of the statement. -/
theorem pushResult : Obligations.PushResult := by
  intro s hmem
  refine ⟨fun hs => ⟨?pha, ?phx, ?phy⟩, fun hs hrs => ?php⟩
  case pha => exact pushes_register (r := .a) rfl hmem hs
  case phx => exact pushes_register (r := .x) rfl hmem hs
  case phy => exact pushes_register (r := .y) rfl hmem hs
  case php => exact ⟨_, pushes_of_exec hmem (by decide) (exec_php_accepted hs hrs), statusByte_bits s.p⟩

/-! ### PLP -/

/-- A flag of a pulled byte is the byte's bit (R29). -/
theorem flagsOfByte_setWidth (b : Byte) : flagsOfByte (b.setWidth 64) =
    ⟨b.getLsbD 7, b.getLsbD 6, b.getLsbD 3, b.getLsbD 2, b.getLsbD 1, b.getLsbD 0⟩ := by
  simp [flagsOfByte]

/-- Settles O35: the byte pulled is one byte of the current environment, and the pull moves the stack pointer alone. -/
theorem plpResult : Obligations.PlpResult := by
  intro s hs b
  have hb : s.pulled false 1 = b.setWidth 64 := s.memRead_one s.cur (s.pullAddr false)
  change execPlp s = _
  rw [execPlp, checkPrefixNoWidth_eq_none.mpr hs, complete_none, plpNext, hb, flagsOfByte_setWidth, State.afterPull_eq,
    State.setFlags_withSp]

end Sys2Proof.Machine
end

section
/-! SUPPORT. V of ADC and SBC is signed overflow (R28, R244, R273). -/

namespace Sys2Proof.Machine

/-! ### A word's low `k` bits as an unsigned and as a signed number -/

/-- The top bit of a `k`-bit value says whether it is in the upper half. -/
theorem topBit_eq_decide {k : Nat} (hk : 0 < k) (v : Word) : topBit k v = decide (2 ^ (k - 1) ≤ value k v) := by
  have hmsb := BitVec.msb_eq_decide (v.setWidth k)
  rwa [BitVec.msb_eq_getLsbD_last, BitVec.getLsbD_setWidth, BitVec.toNat_setWidth,
    decide_eq_true (by omega : k - 1 < k), Bool.true_and] at hmsb

theorem two_pow_eq_double {k : Nat} (hk : 0 < k) : 2 ^ k = 2 * 2 ^ (k - 1) := by
  rw [← Nat.pow_succ', Nat.succ_eq_add_one, Nat.sub_add_cancel hk]

theorem value_lt (k : Nat) (v : Word) : value k v < 2 ^ k := Nat.mod_lt _ (Nat.two_pow_pos k)

/-- The number below `2P` with its upper half read as negative. -/
def signedOf (P x : Nat) : Int := if P ≤ x then (x : Int) - (2 * P : Nat) else x

/-- The signed number is the unsigned one, less `2^k` in the upper half. -/
theorem signed_eq {k : Nat} (hk : 0 < k) (v : Word) : signed k v = signedOf (2 ^ (k - 1)) (value k v) := by
  have htop := topBit_eq_decide hk v
  have hpow : (2 : Int) ^ k = 2 * 2 ^ (k - 1) := by exact_mod_cast two_pow_eq_double hk
  unfold topBit at htop
  simp [signed, signedOf, htop, hpow]

theorem exactSum_eq (k : Nat) (a b : Word) (c : Bool) : exactSum k a b c = value k a + value k b + c.toNat := by
  simp only [exactSum, toNat_low, value]

/-- The sum at width `k` is the exact sum modulo `2^k` (R244). -/
theorem value_sumResult {k : Nat} (hk : k ≤ 64) (a b : Word) (c : Bool) :
    value k (sumResult k a b c) = (value k a + value k b + c.toNat) % 2 ^ k := by
  rw [value, sumResult, toNat_low, Nat.mod_mod, BitVec.toNat_ofNat, exactSum_eq,
    Nat.mod_mod_of_dvd _ (Nat.pow_dvd_pow 2 hk)]

/-- `NOT b` at width `k` is `2^k - 1 - b` (R273). -/
theorem value_not {k : Nat} (hk : k ≤ 64) (b : Word) : value k (~~~b) = 2 ^ k - 1 - value k b := by
  have hnot : (~~~b).setWidth k = ~~~(b.setWidth k) := BitVec.setWidth_not hk
  rw [value, ← BitVec.toNat_setWidth, hnot, BitVec.toNat_not, BitVec.toNat_setWidth, value]

/-! ### Overflow, on numbers below `2P` -/

/-- Reducing a sum of two numbers below `M` and a carry modulo `M` takes away `M` at most once. -/
theorem sum_mod_eq {M a b c : Nat} (ha : a < M) (hb : b < M) (hc : c ≤ 1) :
    (a + b + c) % M = if M ≤ a + b + c then a + b + c - M else a + b + c := by
  split
  · rw [Nat.mod_eq_sub_mod ‹_›, Nat.mod_eq_of_lt (by omega)]
  · exact Nat.mod_eq_of_lt (by omega)

/-- A number that is no signed number of the width whose lower half has `P` values. -/
abbrev OutOfRange (P : Nat) (x : Int) : Prop := x < -(P : Int) ∨ (P : Int) ≤ x

/-- A sum overflows exactly when its operands have one sign and the result the other. -/
theorem add_overflow_iff {P a b c : Nat} (ha : a < 2 * P) (hb : b < 2 * P) (hc : c ≤ 1) :
    ((P ≤ a ↔ P ≤ b) ∧ ¬ (P ≤ (a + b + c) % (2 * P) ↔ P ≤ a)) ↔
      OutOfRange P (signedOf P a + signedOf P b + c) := by
  rw [sum_mod_eq ha hb hc]
  unfold signedOf
  split <;> split <;> split <;> omega

/-- A difference overflows exactly when its operands differ in sign and the result has the sign of the second. -/
theorem sub_overflow_iff {P a b c : Nat} (ha : a < 2 * P) (hb : b < 2 * P) (hc : c ≤ 1) :
    (¬ (P ≤ a ↔ P ≤ b) ∧ ¬ (P ≤ (a + (2 * P - 1 - b) + c) % (2 * P) ↔ P ≤ a)) ↔
      OutOfRange P (signedOf P a - signedOf P b - (1 - c : Nat)) := by
  rw [sum_mod_eq ha (by omega) hc]
  unfold signedOf
  split <;> split <;> split <;> omega

/-! ### The flags -/

theorem addFlags_v {k : Nat} (hk : 0 < k) (hk' : k ≤ 64) (a b : Word) (p : Flags) :
    (addFlags k a b p).v = true ↔ OutOfRange (2 ^ (k - 1)) (signed k a + signed k b + p.c.toNat) := by
  have ha := two_pow_eq_double hk ▸ value_lt k a
  have hb := two_pow_eq_double hk ▸ value_lt k b
  have hov := add_overflow_iff ha hb p.c.toNat_le
  rw [signed_eq hk, signed_eq hk, ← hov, addFlags]
  simp [topBit_eq_decide hk, value_sumResult hk', two_pow_eq_double hk]

theorem subFlags_v {k : Nat} (hk : 0 < k) (hk' : k ≤ 64) (a b : Word) (p : Flags) :
    (subFlags k a b p).v = true ↔ OutOfRange (2 ^ (k - 1)) (signed k a - signed k b - (!p.c).toNat) := by
  have ha := two_pow_eq_double hk ▸ value_lt k a
  have hb := two_pow_eq_double hk ▸ value_lt k b
  have hov := sub_overflow_iff ha hb p.c.toNat_le
  have hc : (!p.c).toNat = 1 - p.c.toNat := by cases p.c <;> rfl
  rw [signed_eq hk, signed_eq hk, hc, ← hov, subFlags]
  simp [topBit_eq_decide hk, value_sumResult hk', value_not hk', two_pow_eq_double hk]

/-- Settles O24: at each width the flag is the sign rule of the exact result. -/
theorem overflowIsSignedOverflow : Obligations.OverflowIsSignedOverflow := by
  intro k hk a b p out
  obtain ⟨hpos, hle⟩ : 0 < k ∧ k ≤ 64 := (by decide : ∀ k ∈ [8, 16, 32, 64], 0 < k ∧ k ≤ 64) k hk
  constructor
  · exact Bool.eq_iff_iff.mpr ((addFlags_v hpos hle a b p).trans decide_eq_true_iff.symm)
  · exact Bool.eq_iff_iff.mpr ((subFlags_v hpos hle a b p).trans decide_eq_true_iff.symm)

end Sys2Proof.Machine
end

section
/-! SUPPORT. The units of an instruction: what one unit takes from the bytes it is read from, whatever follows (R84, R85, R92). -/

namespace Sys2Proof

/-! ### Which units are opcodes -/

/-- The cells of a row list are opcodes: none of them makes a unit that only modifies what follows. -/
def OpcodesOnly (rows : List Row) : Prop :=
  ∀ (v : Word) (c : Context), (rows.all fun r => (c.extend (r.make v)).isNone) = true

theorem stdRow_opcodesOnly (n : Nat) : OpcodesOnly (stdRow n) := by
  intro v c
  unfold stdRow
  split <;> rfl

theorem extRow_opcodesOnly (n : Nat) : OpcodesOnly (extRow n) := by
  intro v c
  unfold extRow
  split <;> rfl

theorem OpcodesOnly.extend {rows : List Row} (h : OpcodesOnly rows) {r : Row} (hr : r ∈ rows) (v : Word) (c : Context) :
    c.extend (r.make v) = none :=
  Option.isNone_iff_eq_none.mp (List.all_eq_true.mp (h v c) r hr)

theorem findRow_mem {rows : List Row} {b : Byte} {r : Row} (h : findRow rows b = some r) : r ∈ rows := by
  induction rows with
  | nil => cases h
  | cons q rows ih =>
    rw [findRow] at h
    split at h
    · cases h
      exact List.mem_cons_self
    · exact List.mem_cons_of_mem _ (ih h)

/-- What a table holds at an opcode makes opcodes (R95, R96). -/
theorem extend_of_lookupRow {m : ExtMap} {page : Page} {b : Byte} {r : Row} (h : lookupRow m page b = some r) (v : Word)
    (c : Context) : c.extend (r.make v) = none := by
  cases page with
  | std => exact (stdRow_opcodesOnly _).extend (findRow_mem h) v c
  | ext => exact (extRow_opcodesOnly _).extend (findRow_mem h) v c

/-! ### The bytes a unit takes -/

theorem AddrMode.operandBytes_le_eight (mode : AddrMode) (am : Bool) (rs : OpSize) : mode.operandBytes am rs ≤ 8 := by
  cases mode <;> cases am <;> cases rs <;> decide

/-- An operand of `n` bytes is read from the first `n` bytes, whatever follows. -/
theorem takeOperand_eq_some {n : Nat} {bs rest : List Byte} {v : Word} (h : takeOperand n bs = some (v, rest)) :
    ∃ u, bs = u ++ rest ∧ u.length = n ∧ ∀ more, takeOperand n (u ++ more) = some (v, more) := by
  induction n generalizing bs v with
  | zero =>
    cases h
    exact ⟨[], rfl, rfl, fun _ => rfl⟩
  | succ n ih =>
    cases bs with
    | nil => cases h
    | cons b bs =>
      rw [takeOperand] at h
      split at h
      · next w rest' hw =>
        cases h
        obtain ⟨u, rfl, rfl, hu⟩ := ih hw
        exact ⟨b :: u, rfl, rfl, fun more => by simp [takeOperand, hu]⟩
      · cases h

/-- How many units before the opcode the record holds: a prefix1, a prefix2 and the page byte (R84). -/
def Context.units (c : Context) : Nat := c.prefix1.isSome.toNat + c.prefix2.isSome.toNat + (c.page == .ext).toNat

/-- The first byte of a unit decides: no unit, a unit of one byte that fills one more place of the record, or an opcode. -/
theorem decode_cons (m : ExtMap) (c : Context) (b : Byte) :
    (∃ e, ∀ bs, decode m c (b :: bs) = .error e)
    ∨ (∃ i c', c.extend i = some c' ∧ c'.units = c.units + 1 ∧ ∀ bs, decode m c (b :: bs) = .ok (i, bs))
    ∨ ∃ page r, lookupRow m page b = some r ∧ ∀ bs, decode m c (b :: bs) = decodeOperand c r bs := by
  cases hpage : c.page with
  | ext =>
    cases hrow : lookupRow m .ext b with
    | none => exact .inl ⟨.extUnassigned b, fun bs => by simp only [decode, hpage, hrow]⟩
    | some r => exact .inr (.inr ⟨_, r, hrow, fun bs => by simp only [decode, hpage, hrow]⟩)
  | std =>
    have hdecode : ∀ bs, decode m c (b :: bs) = _ := fun bs => by rw [decode, hpage]
    by_cases hfirst : (isPrefix1 b && c.prefix1.isNone && c.prefix2.isNone) = true
    · refine .inr (.inl ⟨.prefix1 (.ofByte b), _, rfl, ?_, fun bs => by simp only [hdecode, if_pos hfirst]⟩)
      simp only [Bool.and_eq_true, Option.isNone_iff_eq_none] at hfirst
      simp [Context.units, hfirst]
      omega
    by_cases hsecond : isPrefix2 b = true
    · by_cases hfield : c.prefix2.isNone = true
      · refine .inr (.inl ⟨.prefix2 (.ofByte b), _, rfl, ?_, fun bs => by
          simp only [hdecode, if_neg hfirst, if_pos hsecond, if_pos hfield]⟩)
        simp [Context.units, Option.isNone_iff_eq_none.mp hfield]
        omega
      · exact .inl ⟨.secondPrefix2 b, fun bs => by simp only [hdecode, if_neg hfirst, if_pos hsecond, if_neg hfield]⟩
    by_cases hbyte : b = extPageByte
    · refine .inr (.inl ⟨.extPage, _, rfl, ?_, fun bs => by
        simp only [hdecode, if_neg hfirst, if_neg hsecond, if_pos hbyte]⟩)
      simp [Context.units, hpage]
    by_cases hduplicate : (isPrefix1 b && !c.am) = true
    · exact .inl ⟨.duplicateOpcode b, fun bs => by
        simp only [hdecode, if_neg hfirst, if_neg hsecond, if_neg hbyte, if_pos hduplicate]⟩
    cases hrow : lookupRow m .std b with
    | none => exact .inl ⟨.noRow b, fun bs => by
        simp only [hdecode, if_neg hfirst, if_neg hsecond, if_neg hbyte, if_neg hduplicate, hrow]⟩
    | some r => exact .inr (.inr ⟨_, r, hrow, fun bs => by
        simp only [hdecode, if_neg hfirst, if_neg hsecond, if_neg hbyte, if_neg hduplicate, hrow]⟩)

/-- The bytes `u` read as the unit `i` in the context `c`. -/
structure ReadsAs (m : ExtMap) (c : Context) (u : List Byte) (i : Instr) : Prop where
  /-- Whatever follows the bytes is left. -/
  decodes : ∀ more, decode m c (u ++ more) = .ok (i, more)
  /-- An opcode has at most eight operand bytes (R92). -/
  length_le : u.length ≤ 9
  /-- A unit before the opcode is one byte and fills one more place of the record (R84). -/
  fills : ∀ c', c.extend i = some c' → u.length = 1 ∧ c'.units = c.units + 1

/-- What the decoder answers is read from the bytes before the rest. -/
theorem decode_eq_ok {m : ExtMap} {c : Context} {bs rest : List Byte} {i : Instr} (h : decode m c bs = .ok (i, rest)) :
    ∃ u, bs = u ++ rest ∧ ReadsAs m c u i := by
  cases bs with
  | nil => cases h
  | cons b bs =>
    obtain ⟨e, he⟩ | ⟨j, c', hext, hunits, hj⟩ | ⟨page, r, hrow, hr⟩ := decode_cons m c b
    · rw [he] at h
      cases h
    · rw [hj] at h
      cases h
      refine ⟨[b], rfl, hj, by simp, fun d hd => ⟨rfl, ?_⟩⟩
      cases hext.symm.trans hd
      exact hunits
    · rw [hr, decodeOperand] at h
      split at h
      · next v _ hv =>
        cases h
        obtain ⟨u, rfl, hlen, hu⟩ := takeOperand_eq_some hv
        refine ⟨b :: u, rfl, fun more => ?_, ?_, fun d hd => ?_⟩
        · rw [List.cons_append, hr, decodeOperand, hu]
        · have := r.mode.operandBytes_le_eight c.am c.rs
          simp only [List.length_cons]
          omega
        · cases (extend_of_lookupRow hrow v c).symm.trans hd
      · cases h

end Sys2Proof
end

section
/-! SUPPORT. A step runs the units that `decodeInstruction` reads from the bytes at PC (R33, R85). -/

namespace Sys2Proof.Machine

/-! ### Addresses and the bytes at them -/

theorem State.AW_le (s : State) : s.AW ≤ 64 := by
  unfold State.AW
  cases s.opts.addrWidth <;> decide

/-- An address is reduced once, after the sum (R4). -/
theorem State.addr_addr_add (s : State) (a b : Word) : s.addr (s.addr a + b) = s.addr (a + b) := by
  apply BitVec.eq_of_toNat_eq
  have hdvd : 2 ^ s.AW ∣ 2 ^ 64 := Nat.pow_dvd_pow 2 s.AW_le
  simp only [State.addr, toNat_low, BitVec.toNat_add, Nat.mod_mod_of_dvd _ hdvd, Nat.mod_add_mod]

/-- PC advanced twice is PC advanced by the sum. -/
theorem State.addr_advance (s : State) (a : Word) (j k : Nat) :
    s.addr (s.addr (a + BitVec.ofNat 64 j) + BitVec.ofNat 64 k) = s.addr (a + BitVec.ofNat 64 (j + k)) := by
  rw [s.addr_addr_add, BitVec.add_assoc, ← BitVec.ofNat_add]

theorem State.addr_addr (s : State) (a : Word) : s.addr (s.addr a) = s.addr a := low_low_self _ _

/-- A byte is found by its address modulo `2^AW` (R50). -/
theorem State.byteAt_congr_addr (s : State) (env : Mode) {a b : Word} (h : s.addr a = s.addr b) :
    s.byteAt env a = s.byteAt env b := by
  simp only [State.byteAt, State.locate, h]

@[simp] theorem State.length_loadBytes (s : State) (env : Mode) (a : Word) (k : Nat) :
    (s.loadBytes env a k).length = k := by
  induction k generalizing a with
  | zero => rfl
  | succ k ih => simp [State.loadBytes, ih]

/-- A stretch of bytes is found by its first address modulo `2^AW` (R50). -/
theorem State.loadBytes_congr_addr (s : State) (env : Mode) {a b : Word} (h : s.addr a = s.addr b) (k : Nat) :
    s.loadBytes env a k = s.loadBytes env b k := by
  induction k generalizing a b with
  | zero => rfl
  | succ k ih =>
    have hnext : s.addr (a + 1) = s.addr (b + 1) := by rw [← s.addr_addr_add a, h, s.addr_addr_add]
    rw [State.loadBytes, State.loadBytes, s.byteAt_congr_addr env h, ih hnext]

theorem State.loadBytes_add (s : State) (env : Mode) (a : Word) (j k : Nat) :
    s.loadBytes env a (j + k) = s.loadBytes env a j ++ s.loadBytes env (a + BitVec.ofNat 64 j) k := by
  induction j generalizing a with
  | zero => simp [State.loadBytes]
  | succ j ih =>
    have hnext : a + 1 + BitVec.ofNat 64 j = a + BitVec.ofNat 64 (j + 1) := by
      rw [BitVec.ofNat_add, BitVec.add_assoc, BitVec.add_comm 1]
      rfl
    rw [Nat.succ_add, State.loadBytes, ih, hnext]
    rfl

/-- What is fetched from memory does not depend on the record of the instruction or on PC. -/
theorem State.loadBytes_record (s : State) (c : Context) (f o p : Word) (env : Mode) (a : Word) (k : Nat) :
    ({ s with ctx := c, start := f, opcodeAt := o, pc := p } : State).loadBytes env a k = s.loadBytes env a k := by
  induction k generalizing a with
  | zero => rfl
  | succ k ih =>
    rw [State.loadBytes, State.loadBytes, ih]
    rfl

/-! ### One unit -/

/-- The unit at PC is the one that any longer stretch of bytes from PC decodes to. -/
theorem State.fetchUnit_eq {s : State} {N : Nat} {i : Instr} {rest : List Byte} (hN : 9 ≤ N)
    (h : decode s.opts.extMap s.ctx (s.loadBytes s.cur s.pc N) = .ok (i, rest)) :
    ∃ u, s.fetchUnit = .ok (i, u.length) ∧ ReadsAs s.opts.extMap s.ctx u i
      ∧ rest = s.loadBytes s.cur (s.pc + BitVec.ofNat 64 u.length) (N - u.length) := by
  obtain ⟨u, hu, hreads⟩ := decode_eq_ok h
  have hsplit : ∀ k, u.length ≤ k → s.loadBytes s.cur s.pc k
      = s.loadBytes s.cur s.pc u.length ++ s.loadBytes s.cur (s.pc + BitVec.ofNat 64 u.length) (k - u.length) := by
    intro k hk
    rw [← State.loadBytes_add, Nat.add_sub_cancel' hk]
  rw [hsplit N (hreads.length_le.trans hN)] at hu
  obtain ⟨hbytes, hrest⟩ := List.append_inj hu (s.length_loadBytes _ _ _)
  refine ⟨u, ?_, hreads, hrest.symm⟩
  rw [State.fetchUnit, State.fetchWindow, hsplit 9 hreads.length_le, hbytes, hreads.decodes]
  have hlen := hreads.length_le
  simp only [State.length_loadBytes]
  congr
  omega

/-- A unit before the opcode sets its field of the record and nothing else (R83, R444). -/
theorem exec_of_extend {i : Instr} {s : State} {c : Context} (h : s.ctx.extend i = some c) :
    exec i s = .next { s with ctx := c } := by
  cases i with
  | prefix1 f | prefix2 f | extPage =>
    cases h
    rfl
  | _ => cases h

/-! ### The units of an instruction -/

/-- The outcome of a step, given the outcome of its opcode: a next state has its record cleared (R33). -/
def endOutcome : Outcome → Outcome
  | .next t => .next t.endInstr
  | .fault f => .fault f
  | .refused r => .refused r

theorem runUnits_of_extend {n : Nat} {s : State} {i : Instr} {k : Nat} {c : Context}
    (hfetch : s.fetchUnit = .ok (i, k)) (h : s.ctx.extend i = some c) :
    runUnits (n + 1) s = runUnits n { s.fetched k with ctx := c } := by
  have hexec : exec i (s.fetched k) = .next { s.fetched k with ctx := c } := exec_of_extend h
  simp only [runUnits, hfetch, hexec, h, Option.isSome_some, if_true]

theorem runUnits_of_opcode {n : Nat} {s : State} {i : Instr} {k : Nat} (hfetch : s.fetchUnit = .ok (i, k))
    (h : s.ctx.extend i = none) : runUnits (n + 1) s = endOutcome (exec i (s.fetched k)) := by
  simp only [runUnits, hfetch, h]
  cases exec i (s.fetched k) <;> rfl

/-- The units that `decodeUnits` reads from the bytes at PC are the units that run: the last one is executed with the whole
record, and PC stands behind it. The bytes given are enough for a window at every unit. -/
theorem runUnits_eq_exec {n N : Nat} {s : State} {c : Context} {i : Instr} {rest : List Byte} (hN : n + 8 ≤ N)
    (hpc : s.addr s.pc = s.pc)
    (h : decodeUnits s.opts.extMap n s.ctx (s.loadBytes s.cur s.pc N) = .ok (c, i, rest)) :
    ∃ d, c.units = s.ctx.units + d ∧ rest.length ≤ N ∧
      runUnits n s = endOutcome (exec i { s with
        ctx := c
        opcodeAt := s.addr (s.pc + BitVec.ofNat 64 d)
        pc := s.addr (s.pc + BitVec.ofNat 64 (N - rest.length)) }) := by
  induction n generalizing N s with
  | zero => cases h
  | succ n ih =>
    rw [decodeUnits] at h
    split at h
    · cases h
    next j rest' hdecode =>
    obtain ⟨u, hfetch, hreads, rfl⟩ := State.fetchUnit_eq (by omega) hdecode
    split at h
    · next c' hext =>
      obtain ⟨hlen, hunits⟩ := hreads.fills c' hext
      rw [hlen] at hfetch h
      have hbytes : ({ s.fetched 1 with ctx := c' } : State).loadBytes s.cur (s.addr (s.pc + BitVec.ofNat 64 1)) (N - 1)
          = s.loadBytes s.cur (s.pc + BitVec.ofNat 64 1) (N - 1) :=
        (s.loadBytes_record _ _ _ _ _ _ _).trans (s.loadBytes_congr_addr _ (s.addr_addr _) _)
      obtain ⟨d, hd, hrest, hrun⟩ := ih (N := N - 1) (s := { s.fetched 1 with ctx := c' }) (by omega) (s.addr_addr _)
        (hbytes ▸ h)
      refine ⟨d + 1, ?_, by omega, ?_⟩
      · rw [hd, hunits]
        omega
      · rw [runUnits_of_extend hfetch hext, hrun]
        change endOutcome (exec i { s with
          ctx := c
          opcodeAt := s.addr (s.addr (s.pc + BitVec.ofNat 64 1) + BitVec.ofNat 64 d)
          pc := s.addr (s.addr (s.pc + BitVec.ofNat 64 1) + BitVec.ofNat 64 (N - 1 - rest.length)) }) = _
        have hk : 1 + (N - 1 - rest.length) = N - rest.length := by omega
        rw [State.addr_advance, State.addr_advance, Nat.add_comm 1 d, hk]
    · next hext =>
      cases h
      refine ⟨0, rfl, by simp, ?_⟩
      have hk : N - (N - u.length) = u.length := by have := hreads.length_le; omega
      rw [runUnits_of_opcode hfetch hext, State.length_loadBytes, hk, BitVec.add_zero, hpc]
      rfl

/-! ### The statement -/

/-- Settles O7: the first fetch reduces PC and clears the record, and twelve bytes are enough for four units. -/
theorem stepRunsTheInstruction : Obligations.StepRunsTheInstruction := by
  intro s c i rest h
  have hbytes : s.beginInstr.loadBytes s.cur (s.addr s.pc) 12 = s.loadBytes s.cur s.pc 12 :=
    (s.loadBytes_record _ _ _ _ _ _ _).trans (s.loadBytes_congr_addr _ (s.addr_addr _) _)
  obtain ⟨d, hd, -, hrun⟩ := runUnits_eq_exec (N := 12) (s := s.beginInstr) (by decide) (s.addr_addr _) (hbytes ▸ h)
  obtain rfl : c.units = d := hd.trans (Nat.zero_add d)
  rw [step, runInstruction, hrun]
  change endOutcome (exec i { s with
    ctx := c
    start := s.addr s.pc
    opcodeAt := s.addr (s.addr s.pc + BitVec.ofNat 64 c.units)
    pc := s.addr (s.addr s.pc + BitVec.ofNat 64 (12 - rest.length)) }) = _
  rw [s.addr_addr_add, s.addr_addr_add]
  rfl

end Sys2Proof.Machine
end

section
/-! SUPPORT. What a read of several bytes answers: the little-endian sum of its bytes, and the value that a store left there
(R50, R52, R54). -/

namespace Sys2Proof.Machine

/-! ### One byte more -/

theorem add_one_add_ofNat (a : Word) (i : Nat) : a + 1 + BitVec.ofNat 64 i = a + BitVec.ofNat 64 (i + 1) := by
  rw [BitVec.add_assoc, Nat.add_comm, BitVec.ofNat_add]
  rfl

/-- Below the top byte, `or` of a byte and a value moved up by a byte is their sum: no bit is in both. -/
theorem toNat_byte_or_shift (b : Byte) {v : Word} (hv : v.toNat < 2 ^ 56) :
    (b.setWidth 64 ||| v <<< 8).toNat = b.toNat + 256 * v.toNat := by
  have hb : b.toNat < 2 ^ 8 := b.isLt
  have hshift : (v <<< 8).toNat = 2 ^ 8 * v.toNat := by
    rw [BitVec.toNat_shiftLeft, Nat.shiftLeft_eq]
    omega
  rw [BitVec.toNat_or, hshift, BitVec.toNat_setWidth, Nat.mod_eq_of_lt (by omega), Nat.or_comm,
    ← Nat.two_pow_add_eq_or_of_lt hb, Nat.add_comm]

theorem State.toNat_memRead_lt (s : State) (env : Mode) (a : Word) {n : Nat} (hn : n ≤ 8) :
    (s.memRead env a n).toNat < 2 ^ (8 * n) := by
  induction n generalizing a with
  | zero => simp [State.memRead]
  | succ n ih =>
    have hrest := ih (a + 1) (by omega)
    have hpow : 2 ^ (8 * n) ≤ 2 ^ 56 := Nat.pow_le_pow_right (by decide) (by omega)
    have hb : (s.byteAt env a).toNat < 256 := (s.byteAt env a).isLt
    rw [State.memRead, toNat_byte_or_shift _ (by omega), Nat.mul_succ, Nat.pow_add]
    omega

/-- A read of one byte more has the byte at its address below, and the rest 256 times as high. -/
theorem State.toNat_memRead_succ (s : State) (env : Mode) (a : Word) {n : Nat} (hn : n < 8) :
    (s.memRead env a (n + 1)).toNat = (s.byteAt env a).toNat + 256 * (s.memRead env (a + 1) n).toNat := by
  have hpow : 2 ^ (8 * n) ≤ 2 ^ 56 := Nat.pow_le_pow_right (by decide) (by omega)
  exact toNat_byte_or_shift _ ((s.toNat_memRead_lt env (a + 1) hn.le).trans_le hpow)

/-! ### The sum of the bytes -/

theorem State.toNat_memRead (s : State) (env : Mode) (a : Word) {n : Nat} (hn : n ≤ 8) :
    (s.memRead env a n).toNat
      = ((List.range n).map fun i => (s.byteAt env (a + BitVec.ofNat 64 i)).toNat * 256 ^ i).sum := by
  induction n generalizing a with
  | zero => rfl
  | succ n ih =>
    have hterm (i : Nat) : (s.byteAt env (a + BitVec.ofNat 64 (i + 1))).toNat * 256 ^ (i + 1)
        = 256 * ((s.byteAt env (a + 1 + BitVec.ofNat 64 i)).toNat * 256 ^ i) := by
      rw [add_one_add_ofNat, Nat.pow_succ]
      ring
    rw [s.toNat_memRead_succ env a (by omega), ih (a + 1) (by omega), List.range_succ_eq_map, List.map_cons, List.map_map,
      List.sum_cons, ← List.sum_map_mul_left]
    simp [Function.comp_def, hterm]

theorem State.address_eq_addr (s : State) (x : Nat) : s.address x = s.addr (BitVec.ofNat 64 x) := by
  apply BitVec.eq_of_toNat_eq
  have hdvd : 2 ^ s.AW ∣ 2 ^ 64 := Nat.pow_dvd_pow 2 s.AW_le
  have hlt : x % 2 ^ s.AW < 2 ^ 64 := (Nat.mod_lt _ (by positivity)).trans_le (Nat.le_of_dvd (by decide) hdvd)
  rw [State.address, State.addr, toNat_low, BitVec.toNat_ofNat, BitVec.toNat_ofNat, Nat.mod_eq_of_lt hlt,
    Nat.mod_mod_of_dvd _ hdvd]

/-- The byte at `(a+i) mod 2^AW` is the one that a read finds at `a+i` (R50). -/
theorem State.byteAt_address_add (s : State) (env : Mode) (a : Word) (i : Nat) :
    s.byteAt env (s.address (a.toNat + i)) = s.byteAt env (a + BitVec.ofNat 64 i) := by
  rw [s.address_eq_addr, BitVec.ofNat_add, BitVec.ofNat_toNat, BitVec.setWidth_eq]
  exact s.byteAt_congr_addr env (s.addr_addr _)

/-- Settles O17: a byte is found by its address modulo `2^AW`, so the sum runs over the bytes that the read takes. -/
theorem memReadIsLittleEndian : Obligations.MemReadIsLittleEndian := by
  intro s env a n hn
  simp only [State.byteAt_address_add]
  exact s.toNat_memRead env a hn

/-! ### A read of what was stored -/

@[simp] theorem getElem_low (k : Nat) (v : Word) (j : Nat) (hj : j < 64) : (low k v)[j] = (decide (j < k) && v[j]) :=
  getLsbD_low k v j

/-- The bytes of `v` from the lowest up read as `v`. -/
theorem State.memRead_eq_low {s : State} {env : Mode} {a : Word} {n : Nat} {v : Word}
    (h : ∀ i < n, s.byteAt env (a + BitVec.ofNat 64 i) = (v >>> (8 * i)).setWidth 8) :
    s.memRead env a n = low (8 * n) v := by
  induction n generalizing a v with
  | zero => simp [State.memRead, low, BitVec.of_length_zero]
  | succ n ih =>
    have hfirst : s.byteAt env a = v.setWidth 8 := by simpa using h 0 (by omega)
    have hrest : s.memRead env (a + 1) n = low (8 * n) (v >>> 8) := ih fun i hi => by
      rw [add_one_add_ofNat, h (i + 1) (by omega), ← BitVec.shiftRight_add, Nat.mul_succ, Nat.add_comm]
    rw [State.memRead, hfirst, hrest]
    apply BitVec.eq_of_getLsbD_eq
    intro j hj
    by_cases hlow : j < 8
    · have : j < 8 * (n + 1) := by omega
      simp [hj, hlow, this]
    · have hiff : j - 8 < 8 * n ↔ j < 8 * (n + 1) := by omega
      simp [hj, hlow, hiff, Nat.add_sub_cancel' (not_lt.mp hlow)]

/-- What `MemWrite` stored at addresses apart from one another, `MemRead` answers, in any state with that memory (R52). -/
theorem Stored.memRead {s u : State} {env : Mode} {a : Word} {n : Nat} {v : Word} (h : Stored s env a n v u.mem)
    (hapart : Apart s env a n) (hlocate : ∀ b, u.locate env b = s.locate env b) :
    u.memRead env a n = low (8 * n) v :=
  State.memRead_eq_low fun i hi => by
    rw [State.byteAt, hlocate]
    exact h.bytes i hi fun j hj hij heq => hij.ne' (hapart j hj i hi heq)

end Sys2Proof.Machine
end

section
/-! SUPPORT. A pull after a push of as many bytes on the same stack (R54, R170), and what a load leaves in its register
(R152, R165). -/

namespace Sys2Proof.Machine

/-! ### The stack after a push -/

@[simp] theorem State.spCell_withSp (s : State) (um : Bool) (v : Word) : (s.withSp um v).spCell um = v := by
  unfold State.withSp State.spCell
  by_cases h : um = true ∨ s.opts.hyp = false ∨ s.mode = .user
  · rw [if_pos h, if_pos h]
  · rw [if_neg h, if_neg h]

@[simp] theorem State.mem_withSp (s : State) (um : Bool) (v : Word) : (s.withSp um v).mem = s.mem := by
  unfold State.withSp
  split <;> rfl

@[simp] theorem State.fixedPart_withSp (s : State) (um : Bool) (v : Word) : (s.withSp um v).fixedPart = s.fixedPart := by
  unfold State.withSp
  split <;> rfl

/-- `u` has the stack that a push of `k` bytes of `v` in `s` leaves; its other registers and its record are free. -/
structure Pushed (s : State) (um : Bool) (k : Nat) (v : Word) (u : State) : Prop where
  fixed : u.fixedPart = s.fixedPart
  stored : Stored s (s.envFor um) (s.pushAddr um k) k v u.mem
  sp : u.spCell um = s.spAfterPush um k

theorem Pushes.pushed {i : Instr} {s t : State} {um : Bool} {k : Nat} {v : Word} (h : Pushes i um k v s)
    (ht : exec i s = .next t) : Pushed s um k v t := by
  obtain ⟨m, hexec, hstored⟩ := h
  obtain rfl : _ = t := Host.Outcome.next.inj (hexec.symm.trans ht)
  exact ⟨State.fixedPart_withSp _ _ _, by rwa [State.mem_withSp], State.spCell_withSp _ _ _⟩

section
variable {s u : State} {um : Bool} {k : Nat} {v : Word}

theorem Pushed.opts (h : Pushed s um k v u) : u.opts = s.opts := congrArg FixedPart.opts h.fixed

theorem Pushed.W (h : Pushed s um k v u) : u.W = s.W := State.W_congr h.opts

/-- A pull starts at the address where the push did, in both disciplines (R170). -/
theorem Pushed.pullAddr (h : Pushed s um k v u) (hk : k ≤ 8) : u.pullAddr um = s.pushAddr um k := by
  have hsp : u.sp um = low s.W (s.sp um - BitVec.ofNat 64 k) := by
    rw [State.sp_eq, h.W, h.sp, ← s.low_sp_sub um hk, low_low_self]
  have hsum (x : Word) : low s.W (low s.W x + 1) = low s.W (x + 1) := by
    apply BitVec.eq_of_toNat_eq
    simp only [toNat_low, BitVec.toNat_add]
    obtain hw | hw | hw := s.W_cases <;> rw [hw] <;> omega
  unfold State.pullAddr State.pushAddr
  rw [h.opts, h.W, hsp]
  cases s.opts.stack with
  | fullDescending => rfl
  | emptyDescending => exact hsum _

/-- A pull answers the bytes that the push wrote, if they have locations of their own (R54). -/
theorem Pushed.pulled (h : Pushed s um k v u) (hk : k ≤ 8) (hapart : Apart s (s.envFor um) (s.pushAddr um k) k) :
    u.pulled um k = low (8 * k) v := by
  obtain ⟨hopts, hmch, hmcu, hmode, -⟩ := State.fixedPart_eq_iff.mp h.fixed
  rw [State.pulled, h.pullAddr hk, State.envFor_congr hopts hmode]
  exact h.stored.memRead hapart fun b => State.locate_congr hopts hmch hmcu _ b

/-- A pull brings the stack pointer back to where it was before the push (R170). -/
theorem Pushed.spAfterPull (h : Pushed s um k v u) (hk : k ≤ 8) :
    value s.W (u.spAfterPull um k) = value s.W (s.spCell um) := by
  rw [State.spAfterPull, h.W, h.sp, State.spAfterPush]
  simp only [value, BitVec.toNat_ofNat]
  obtain hw | hw | hw := s.W_cases <;> rw [hw] <;> omega

end

/-! ### What a load leaves in its register -/

/-- The low `w` bits of an extension are those of the value, whatever the extension (R152). -/
theorem State.getLsbD_extend_of_lt {s : State} (hw : s.w ≤ s.W) (le : LoadExt) (m : Word) {j : Nat} (hj : j < s.w) :
    (s.extend le m).getLsbD j = m.getLsbD j := by
  have hjW : j < s.W := hj.trans_le hw
  have hj64 : j < 64 := by obtain h | h | h := s.W_cases <;> omega
  cases le <;> simp [State.extend, sext, oext, BitVec.getElem_signExtend, -BitVec.reduceAllOnes, hj, hjW, hj64]

/-- An extension looks at the low `w` bits alone (R152). -/
theorem State.extend_low (s : State) (le : LoadExt) (m : Word) : s.extend le (low s.w m) = s.extend le m := by
  have hwidth : (low s.w m).setWidth s.w = m.setWidth s.w := by
    apply BitVec.eq_of_getLsbD_eq
    intro j hj
    simp [getLsbD_low, hj]
  cases le <;> simp [State.extend, sext, oext, hwidth]

/-- An extension fits in `W` bits (R152). -/
theorem State.low_W_extend (s : State) {le : LoadExt} (hle : le ≠ .none) (m : Word) :
    low s.W (s.extend le m) = s.extend le m := by
  cases le with
  | none => contradiction
  | _ => exact low_low_self _ _

theorem value_low (k : Nat) (v : Word) : value k (low k v) = value k v := by
  rw [value, toNat_low, Nat.mod_mod, value]

theorem value_congr {k : Nat} {v v' : Word} (h : ∀ j < k, v.getLsbD j = v'.getLsbD j) : value k v = value k v' := by
  have hlow : low k v = low k v' := by
    apply BitVec.eq_of_getLsbD_eq
    intro j _
    rw [getLsbD_low, getLsbD_low]
    by_cases hj : j < k
    · rw [h j hj]
    · simp [hj]
  rw [value, value, ← toNat_low, ← toNat_low, hlow]

theorem State.loaded_of_none {s : State} (h : s.leEff .zero = .none) (old m : Word) : s.loaded old m = setLow s.w old m := by
  rw [State.loaded, h]

theorem State.loaded_of_ne_none {s : State} (h : s.leEff .zero ≠ .none) (old m : Word) :
    s.loaded old m = s.extend (s.leEff .zero) m := by
  unfold State.loaded
  split
  · contradiction
  · rfl

/-- A load puts its value in the low `w` bits of the register (R165). -/
theorem State.value_loaded {s : State} (hw : s.w ≤ s.W) (old m : Word) :
    value s.w (low s.W (s.loaded old m)) = value s.w m := by
  apply value_congr
  intro j hj
  have hjW : j < s.W := hj.trans_le hw
  rw [getLsbD_low, decide_eq_true hjW, Bool.true_and]
  by_cases hle : s.leEff .zero = .none
  · rw [State.loaded_of_none hle, getLsbD_setLow, if_pos hj]
  · rw [State.loaded_of_ne_none hle, State.getLsbD_extend_of_lt hw _ _ hj]

/-- A load without extension keeps the bits above `w`, else its register holds the extension (R165). -/
theorem State.above_loaded (s : State) (old m : Word) :
    if s.leEff .zero = .none then KeepsAbove s s.w old (low s.W (s.loaded (low s.W old) m))
    else low s.W (s.loaded (low s.W old) m) = s.extend (s.leEff .zero) m := by
  split
  next hle =>
    intro j hj
    rw [State.loaded_of_none hle, getLsbD_low, getLsbD_setLow, if_neg (by omega), getLsbD_low, ← Bool.and_assoc,
      Bool.and_self]
  next hle => rw [State.loaded_of_ne_none hle, s.low_W_extend hle]

/-! ### PHA and PLA -/

theorem State.spAfterPull_setReg (s : State) (r : Reg) (v : Word) (um : Bool) (k : Nat) :
    (s.setReg r v).spAfterPull um k = s.spAfterPull um k := by
  cases r <;> rfl

theorem State.spCell_updateFlags (s : State) (p : Flags) (um : Bool) : (s.updateFlags p).spCell um = s.spCell um := by
  unfold State.updateFlags
  split <;> rfl

theorem pullNext_a (s : State) :
    (pullNext .a s).a = low s.W (s.loaded (low s.W s.a) (s.pulled s.ctx.um s.n)) := by
  simp [pullNext, State.reg]

theorem pullNext_spCell (r : Reg) (s : State) : (pullNext r s).spCell s.ctx.um = s.spAfterPull s.ctx.um s.n := by
  rw [pullNext, State.spCell_updateFlags, State.afterPull_eq, State.spCell_withSp, State.spAfterPull_setReg]

/-- PLA loads A with what was pushed and brings the stack pointer back (R165, R170, R354). -/
theorem exec_pla_of_pushed {s u : State} {v : Word} (hu : AcceptedData .nfRsUmLe u) (hpushed : Pushed s u.ctx.um u.n v u)
    (hapart : Apart s (s.envFor u.ctx.um) (s.pushAddr u.ctx.um u.n) u.n) :
    ∃ w, exec .pla u = .next w ∧ value u.w w.a = value u.w v
      ∧ (if u.leEff .zero = .none then KeepsAbove u u.w u.a w.a else w.a = u.extend (u.leEff .zero) v)
      ∧ value s.W (w.spCell u.ctx.um) = value s.W (s.spCell u.ctx.um) := by
  have hm : u.pulled u.ctx.um u.n = low u.w v := hpushed.pulled u.n_le_eight hapart
  have hexec : exec .pla u = .next (pullNext .a u) := by
    change execPla u = _
    rw [execPla, checkPrefix_eq_none.mpr hu, complete_none]
  refine ⟨pullNext .a u, hexec, ?low, ?above, ?sp⟩
  case low => rw [pullNext_a, State.value_loaded hu.width, hm, value_low]
  case above => simpa only [pullNext_a, hm, State.extend_low] using u.above_loaded u.a (low u.w v)
  case sp => rw [pullNext_spCell, hpushed.spAfterPull u.n_le_eight]

/-- Settles O57: the stack that PHA leaves is still there when PLA executes, and the two agree about RS and UM. -/
theorem pushThenPull : Obligations.PushThenPull := by
  intro s t hmem hpha hapart a c pc u hu hrs hum
  have hs : AcceptedData .rsUm s := checkPrefix_eq_none.mp (complete_eq_next.mp hpha).1
  obtain ⟨hfixed, hstored, hsp⟩ := (pushes_register (r := .a) rfl hmem hs).pushed hpha
  have hn : s.n = u.n := congrArg OpSize.bytes hrs.symm
  have hw : s.w = u.w := congrArg (8 * ·) hn
  rw [hw]
  rw [hn, ← hum] at hapart hstored hsp
  rw [← hum]
  exact exec_pla_of_pushed hu ⟨hfixed, hstored, hsp⟩ hapart

end Sys2Proof.Machine
end

section
/-! SUPPORT. What the decoder and the encoder do, each part said once: operand bytes, the bytes of prefix1 and prefix2, the
opcode tables, and the four kinds of unit that `decode` reads (R80, R81, R84, R85, R88, R90 to R96). -/

namespace Sys2Proof

/-! ### Operand bytes -/

/-- The low byte of a word and the bytes above it make the word up (R93). -/
theorem lowByte_or_shift (v : Word) : (v.setWidth 8).setWidth 64 ||| v >>> 8 <<< 8 = v := by
  ext j hj
  simp only [BitVec.getElem_or, BitVec.getElem_setWidth, BitVec.getElem_shiftLeft, BitVec.getLsbD_setWidth]
  by_cases hlow : j < 8
  · simp [hlow, hj]
  · simp [hlow, show 8 + (j - 8) = j by omega, hj]

theorem lowByte_of_or_shift (b : Byte) (v : Word) : (b.setWidth 64 ||| v <<< 8).setWidth 8 = b := by
  ext j hj
  simp

theorem shift_of_or_shift (b : Byte) {v : Word} (hv : v.toNat < 2 ^ 56) : (b.setWidth 64 ||| v <<< 8) >>> 8 = v := by
  apply BitVec.eq_of_toNat_eq
  rw [BitVec.toNat_ushiftRight, Machine.toNat_byte_or_shift b hv, Nat.shiftRight_eq_div_pow]
  have := b.isLt
  omega

/-- An operand of `n` bytes fits in them (R92). -/
theorem toNat_lt_of_takeOperand {n : Nat} (hn : n ≤ 8) {bs rest : List Byte} {v : Word}
    (h : takeOperand n bs = some (v, rest)) : v.toNat < 2 ^ (8 * n) := by
  induction n generalizing bs v with
  | zero =>
    cases h
    decide
  | succ n ih =>
    cases bs with
    | nil => cases h
    | cons b bs =>
      rw [takeOperand] at h
      split at h
      · next w rest' hw =>
        cases h
        have hw := ih (by omega) hw
        have hpow : 2 ^ (8 * n) ≤ 2 ^ 56 := Nat.pow_le_pow_right (by decide) (by omega)
        have hb : b.toNat < 2 ^ 8 := b.isLt
        rw [Machine.toNat_byte_or_shift b (by omega), Nat.mul_succ, Nat.pow_add]
        omega
      · cases h

/-- The bytes of an operand are read back as the operand (R93). -/
theorem takeOperand_operandBytesLE {n : Nat} {v : Word} (hv : v.toNat < 2 ^ (8 * n)) (rest : List Byte) :
    takeOperand n (operandBytesLE n v ++ rest) = some (v, rest) := by
  induction n generalizing v with
  | zero =>
    have hzero : v = 0 := BitVec.eq_of_toNat_eq (Nat.lt_one_iff.mp hv)
    simp [takeOperand, operandBytesLE, hzero]
  | succ n ih =>
    have hshift : (v >>> 8).toNat < 2 ^ (8 * n) := by
      rw [Nat.mul_succ, Nat.pow_add] at hv
      rw [BitVec.toNat_ushiftRight, Nat.shiftRight_eq_div_pow]
      exact Nat.div_lt_of_lt_mul (Nat.mul_comm _ _ ▸ hv)
    simp only [operandBytesLE, List.cons_append, takeOperand, ih hshift, lowByte_or_shift]

/-- The operand that is read is written as the bytes it was read from (R93). -/
theorem operandBytesLE_of_takeOperand {n : Nat} (hn : n ≤ 8) {bs rest : List Byte} {v : Word}
    (h : takeOperand n bs = some (v, rest)) : operandBytesLE n v ++ rest = bs := by
  induction n generalizing bs v with
  | zero =>
    cases h
    rfl
  | succ n ih =>
    cases bs with
    | nil => cases h
    | cons b bs =>
      rw [takeOperand] at h
      split at h
      · next w rest' hw =>
        cases h
        have hlt := toNat_lt_of_takeOperand (by omega) hw
        have hpow : 2 ^ (8 * n) ≤ 2 ^ 56 := Nat.pow_le_pow_right (by decide) (by omega)
        rw [operandBytesLE, lowByte_of_or_shift, shift_of_or_shift b (by omega), List.cons_append, ih (by omega) hw]
      · cases h

/-! ### Prefix bytes -/

theorem isPrefix1_toByte (f : Prefix1) : isPrefix1 f.toByte = true := by
  obtain ⟨of, rs, am⟩ := f
  cases of <;> cases rs <;> cases am <;> rfl

theorem Prefix1.ofByte_toByte (f : Prefix1) : Prefix1.ofByte f.toByte = f := by
  obtain ⟨of, rs, am⟩ := f
  cases of <;> cases rs <;> cases am <;> rfl

theorem isPrefix2_toByte (f : Prefix2) : isPrefix2 f.toByte = true := by
  obtain ⟨um, le, nf⟩ := f
  cases um <;> cases le <;> cases nf <;> rfl

theorem Prefix2.ofByte_toByte (f : Prefix2) : Prefix2.ofByte f.toByte = f := by
  obtain ⟨um, le, nf⟩ := f
  cases um <;> cases le <;> cases nf <;> rfl

/-- The pattern of a prefix1 fixes every bit that is no field (R80). -/
theorem Prefix1.toByte_ofByte : ∀ b : Byte, isPrefix1 b = true → (Prefix1.ofByte b).toByte = b := by decide

/-- The pattern of a prefix2 fixes every bit that is no field (R81). -/
theorem Prefix2.toByte_ofByte : ∀ b : Byte, isPrefix2 b = true → (Prefix2.ofByte b).toByte = b := by decide

/-- No byte has the patterns of both prefixes: bit 3 tells them apart (R80, R81). -/
theorem isPrefix1_of_isPrefix2 : ∀ b : Byte, isPrefix2 b = true → isPrefix1 b = false := by decide

theorem isPrefix1_extPageByte : isPrefix1 extPageByte = false := rfl
theorem isPrefix2_extPageByte : isPrefix2 extPageByte = false := rfl

/-! ### The opcode tables -/

/-- The table of a page, by high nibble (R95, R96). -/
def Page.rows : Page → Nat → List Row
  | .std => stdRow
  | .ext => extRow

/-- Where the cell stands in its page's table that an opcode byte carries under `EXTMAP` (R95, R96). -/
def ExtMap.position (m : ExtMap) : Page → Byte → Byte
  | .std, b => b
  | .ext, b => m.slot b

theorem lookupRow_eq (m : ExtMap) (page : Page) (b : Byte) :
    lookupRow m page b = findRow (page.rows ((m.position page b).toNat / 16)) (m.position page b) := by
  cases page <;> rfl

theorem ExtMap.position_nil (page : Page) (b : Byte) : ExtMap.position [] page b = b := by cases page <;> rfl

theorem findRow_opcode {rows : List Row} {b : Byte} {r : Row} (h : findRow rows b = some r) : r.opcode = b := by
  induction rows with
  | nil => cases h
  | cons q rows ih =>
    rw [findRow] at h
    split at h
    · next hq =>
      cases h
      exact hq
    · exact ih h

theorem opcode_of_lookupRow {m : ExtMap} {page : Page} {b : Byte} {r : Row} (h : lookupRow m page b = some r) :
    r.opcode = m.position page b :=
  findRow_opcode (lookupRow_eq m page b ▸ h)

/-- Column B and cell `0F` of the standard page hold no opcode: they are the prefix2 bytes and the page byte (R95, R443, R444). -/
theorem stdRow_opcodes (n : Nat) : ((stdRow n).all fun r => !isPrefix2 r.opcode && r.opcode != extPageByte) = true := by
  unfold stdRow
  split <;> rfl

theorem not_prefix_of_lookupRow {m : ExtMap} {b : Byte} {r : Row} (h : lookupRow m .std b = some r) :
    isPrefix2 b = false ∧ b ≠ extPageByte := by
  have hr := List.all_eq_true.mp (stdRow_opcodes _) r (findRow_mem (lookupRow_eq m .std b ▸ h))
  rw [opcode_of_lookupRow h] at hr
  simpa [ExtMap.position] using hr

/-- The operand of a cell: a mode without operand bytes has the operand 0, whatever is given. -/
def AddrMode.operandOf : AddrMode → Word → Word
  | .implied, _ | .indE, _ => 0
  | _, v => v

/-- An instruction of a page's table has the cell it stands in (R95, R96). -/
theorem cells_of_rows (page : Page) (n : Nat) (v : Word) :
    (page.rows n).map (fun r => (r.make v).cell)
      = (page.rows n).map fun r => some ⟨page, r.opcode, r.mode, r.mode.operandOf v⟩ := by
  cases page with
  | std =>
    simp only [Page.rows, stdRow]
    split <;> rfl
  | ext =>
    simp only [Page.rows, extRow]
    split <;> rfl

/-- What is read for a mode without operand bytes is the operand 0 (R92). -/
theorem AddrMode.operandOf_of_takeOperand {mode : AddrMode} {am : Bool} {rs : OpSize} {bs rest : List Byte} {v : Word}
    (h : takeOperand (mode.operandBytes am rs) bs = some (v, rest)) : mode.operandOf v = v := by
  cases mode with
  | implied | indE =>
    cases h
    rfl
  | _ => rfl

/-- The instruction made of a row and an operand that was read has the row's cell. -/
theorem cell_of_lookupRow {m : ExtMap} {page : Page} {b : Byte} {r : Row} {am : Bool} {rs : OpSize} {bs rest : List Byte}
    {v : Word} (hrow : lookupRow m page b = some r)
    (hop : takeOperand (r.mode.operandBytes am rs) bs = some (v, rest)) :
    (r.make v).cell = some ⟨page, m.position page b, r.mode, v⟩ := by
  have hcell := List.map_inj_left.mp (cells_of_rows page _ v) r (findRow_mem (lookupRow_eq m page b ▸ hrow))
  rwa [AddrMode.operandOf_of_takeOperand hop, opcode_of_lookupRow hrow] at hcell

/-- The tables hold every cell, and the row there makes the instruction. -/
theorem rowOfCell (i : Instr) : Laws.RowOfCell.Statement i := by
  cases i with
  | prefix1 f => exact Laws.RowOfCell.prefix1 f
  | prefix2 f => exact Laws.RowOfCell.prefix2 f
  | extPage => exact Laws.RowOfCell.extPage
  | pea form op | asrMem form op | rdlMem form op | rdrMem form op =>
    cases form <;> exact Laws.RowOfCell.of_cell rfl (by rfl) rfl
  | _ => exact Laws.RowOfCell.of_cell rfl (by rfl) rfl

/-- Only a prefix1, a prefix2 and the page byte have no cell (R95, R96). -/
theorem Instr.cell_eq_none {i : Instr} (h : i.cell = none) :
    (∃ f, i = .prefix1 f) ∨ (∃ f, i = .prefix2 f) ∨ i = .extPage := by
  cases i with
  | prefix1 f => exact .inl ⟨f, rfl⟩
  | prefix2 f => exact .inr (.inl ⟨f, rfl⟩)
  | extPage => exact .inr (.inr rfl)
  | pea form op | asrMem form op | rdlMem form op | rdrMem form op => cases form <;> cases h
  | _ => cases h

/-! ### `EXTMAP` -/

/-- If some opcode carries the cell, the one the encoder takes does (R96). -/
theorem ExtMap.slot_opcodeFor {m : ExtMap} {b d : Byte} (h : m.slot b = d) : m.slot (m.opcodeFor d) = d := by
  have hmem : b ∈ (List.range 256).map (BitVec.ofNat 8) :=
    List.mem_map.mpr ⟨b.toNat, List.mem_range.mpr b.isLt, BitVec.ofNat_toNat _ _⟩
  unfold ExtMap.opcodeFor
  cases hfind : ((List.range 256).map (BitVec.ofNat 8)).find? (fun b => m.slot b == d) with
  | none => exact absurd (beq_iff_eq.mpr h) (List.find?_eq_none.mp hfind b hmem)
  | some e =>
    have he : (m.slot e == d) = true := List.find?_some (p := fun b => m.slot b == d) hfind
    exact beq_iff_eq.mp he

theorem Cell.assigned_iff {m : ExtMap} {k : Cell} :
    k.assigned m = true ↔ m.position k.page (k.opcodeByte m) = k.opcode := by
  obtain ⟨page, opcode, mode, v⟩ := k
  cases page <;> simp [Cell.assigned, Cell.opcodeByte, ExtMap.position]

theorem Cell.assigned_of_position {m : ExtMap} {k : Cell} {b : Byte} (h : m.position k.page b = k.opcode) :
    k.assigned m = true := by
  obtain ⟨page, opcode, mode, v⟩ := k
  cases page with
  | std => rfl
  | ext => exact beq_iff_eq.mpr (ExtMap.slot_opcodeFor h)

/-- The default `EXTMAP` carries every cell at its own opcode (R96). -/
theorem Cell.opcodeByte_nil (k : Cell) : k.opcodeByte [] = k.opcode := by
  have h := Cell.assigned_iff.mp (Cell.assigned_of_position (k := k) (ExtMap.position_nil _ _))
  rwa [ExtMap.position_nil] at h

/-! ### The units that `decode` reads -/

/-- One unit read from the head of some bytes in a context: the unit and the bytes after it (R84, R85, R88). -/
inductive Reads (m : ExtMap) (c : Context) : List Byte → Instr → List Byte → Prop where
  | prefix1 (b : Byte) (rest : List Byte) (std : c.page = .std) (first : c.prefix1 = none ∧ c.prefix2 = none)
      (pattern : isPrefix1 b = true) : Reads m c (b :: rest) (.prefix1 (.ofByte b)) rest
  | prefix2 (b : Byte) (rest : List Byte) (std : c.page = .std) (once : c.prefix2 = none)
      (pattern : isPrefix2 b = true) : Reads m c (b :: rest) (.prefix2 (.ofByte b)) rest
  | extPage (rest : List Byte) (std : c.page = .std) : Reads m c (extPageByte :: rest) .extPage rest
  | opcode (b : Byte) (bs : List Byte) (r : Row) (v : Word) (rest : List Byte) (row : lookupRow m c.page b = some r)
      (operand : takeOperand (r.mode.operandBytes c.am c.rs) bs = some (v, rest))
      (reachable : c.page = .std → isPrefix1 b = true → c.am = true) : Reads m c (b :: bs) (r.make v) rest

/-- AM=1 is a prefix1's. -/
theorem Context.prefix1_of_am {c : Context} (h : c.am = true) : c.prefix1.isNone = false := by
  unfold Context.am at h
  split at h
  · next hp => simp [hp]
  · cases h

theorem decodeOperand_eq_ok {c : Context} {r : Row} {bs rest : List Byte} {i : Instr} :
    decodeOperand c r bs = .ok (i, rest)
      ↔ ∃ v, takeOperand (r.mode.operandBytes c.am c.rs) bs = some (v, rest) ∧ i = r.make v := by
  unfold decodeOperand
  split
  · next v rest' h =>
    simp only [h, Except.ok.injEq, Prod.mk.injEq, Option.some.injEq]
    exact ⟨fun ⟨hi, hrest⟩ => ⟨v, ⟨rfl, hrest⟩, hi.symm⟩, fun ⟨w, ⟨hv, hrest⟩, hi⟩ => ⟨hv ▸ hi.symm, hrest⟩⟩
  · next h => simp [h]

theorem reads_of_decode {m : ExtMap} {c : Context} {bs rest : List Byte} {i : Instr} (h : decode m c bs = .ok (i, rest)) :
    Reads m c bs i rest := by
  cases bs with
  | nil => cases h
  | cons b bs =>
    rw [decode] at h
    split at h
    · next hpage =>
      split at h
      · next r hrow =>
        obtain ⟨v, hop, rfl⟩ := decodeOperand_eq_ok.mp h
        exact .opcode b bs r v rest (hpage ▸ hrow) hop fun hstd => nomatch hpage.symm.trans hstd
      · cases h
    next hpage =>
    split at h
    · next hfirst =>
      cases h
      simp only [Bool.and_eq_true, Option.isNone_iff_eq_none] at hfirst
      obtain ⟨⟨hpattern, h1⟩, h2⟩ := hfirst
      exact .prefix1 b _ hpage ⟨h1, h2⟩ hpattern
    split at h
    · next hpattern =>
      split at h
      · next honce =>
        cases h
        exact .prefix2 b _ hpage (Option.isNone_iff_eq_none.mp honce) hpattern
      · cases h
    split at h
    · next hbyte =>
      cases h
      exact hbyte ▸ .extPage _ hpage
    split at h
    · cases h
    next hreach =>
    split at h
    · next r hrow =>
      obtain ⟨v, hop, rfl⟩ := decodeOperand_eq_ok.mp h
      exact .opcode b bs r v rest (hpage ▸ hrow) hop fun _ hb => by simpa [hb] using hreach
    · cases h

theorem Reads.decode {m : ExtMap} {c : Context} {bs rest : List Byte} {i : Instr} (h : Reads m c bs i rest) :
    decode m c bs = .ok (i, rest) := by
  cases h with
  | prefix1 b _ std first pattern => simp [Sys2Proof.decode, std, first, pattern]
  | prefix2 b _ std once pattern =>
    simp [Sys2Proof.decode, std, once, pattern, isPrefix1_of_isPrefix2 b pattern]
  | extPage _ std => simp [Sys2Proof.decode, std, isPrefix1_extPageByte, isPrefix2_extPageByte]
  | opcode b bs r v _ row operand reachable =>
    have hdecode : decodeOperand c r bs = .ok (r.make v, rest) := decodeOperand_eq_ok.mpr ⟨v, operand, rfl⟩
    cases hpage : c.page with
    | ext =>
      rw [hpage] at row
      simp only [Sys2Proof.decode, hpage, row, hdecode]
    | std =>
      rw [hpage] at row
      obtain ⟨hcolumn, hbyte⟩ := not_prefix_of_lookupRow row
      have hfirst : (isPrefix1 b && c.prefix1.isNone && c.prefix2.isNone) = false := by
        cases hb : isPrefix1 b with
        | false => rfl
        | true => rw [Context.prefix1_of_am (reachable hpage hb)]; rfl
      have hdup : (isPrefix1 b && !c.am) = false := by
        cases hb : isPrefix1 b with
        | false => rfl
        | true => rw [reachable hpage hb]; rfl
      simp [Sys2Proof.decode, hpage, row, hdecode, hcolumn, hbyte, hfirst, hdup]

/-- `decode` answers exactly the units that stand at the head of the bytes. -/
theorem decode_eq_ok_iff {m : ExtMap} {c : Context} {bs rest : List Byte} {i : Instr} :
    decode m c bs = .ok (i, rest) ↔ Reads m c bs i rest :=
  ⟨reads_of_decode, Reads.decode⟩

end Sys2Proof
end

section
/-! SUPPORT. The encoder and the decoder are inverse to each other on well-formed units and on whole instructions (R80 to R96). -/

namespace Sys2Proof

/-! ### Well-formed units and their bytes -/

theorem Cell.reachable_iff {c : Context} {k : Cell} :
    k.reachable c = true ↔ (k.page = .std → isPrefix1 k.opcode = true → c.am = true) := by
  unfold Cell.reachable
  cases k.page with
  | std => cases isPrefix1 k.opcode <;> simp
  | ext => simp

/-- A cell is well formed on the page reached, where its opcode can be read, is assigned and has an operand that fits. -/
theorem wellFormed_iff_of_cell {m : ExtMap} {c : Context} {i : Instr} {k : Cell} (hk : i.cell = some k) :
    WellFormed m c i = true ↔ k.page = c.page ∧ (k.page = .std → isPrefix1 k.opcode = true → c.am = true)
      ∧ k.assigned m = true ∧ k.operand.toNat < 2 ^ (8 * k.mode.operandBytes c.am c.rs) := by
  simp only [WellFormed, hk, Bool.and_eq_true, beq_iff_eq, Cell.reachable_iff, Cell.operandFits, decide_eq_true_eq,
    and_assoc]

theorem encode_of_cell {m : ExtMap} {c : Context} {i : Instr} {k : Cell} (hk : i.cell = some k) :
    encode m c i = k.opcodeByte m :: operandBytesLE (k.mode.operandBytes c.am c.rs) k.operand := by
  simp only [encode, hk]

theorem wellFormed_prefix1_iff {m : ExtMap} {c : Context} {f : Prefix1} :
    WellFormed m c (.prefix1 f) = true ↔ (c.prefix1 = none ∧ c.prefix2 = none) ∧ c.page = .std := by
  change (c.prefix1.isNone && c.prefix2.isNone && (c.page == .std)) = true ↔ _
  simp

theorem wellFormed_prefix2_iff {m : ExtMap} {c : Context} {f : Prefix2} :
    WellFormed m c (.prefix2 f) = true ↔ c.prefix2 = none ∧ c.page = .std := by
  change (c.prefix2.isNone && (c.page == .std)) = true ↔ _
  simp

theorem wellFormed_extPage_iff {m : ExtMap} {c : Context} : WellFormed m c .extPage = true ↔ c.page = .std :=
  beq_iff_eq

/-- The encoder's opcode byte of a cell that is assigned leads the decoder to the cell's row. -/
theorem lookupRow_opcodeByte {m : ExtMap} {k : Cell} (h : k.assigned m = true) :
    lookupRow m k.page (k.opcodeByte m) = lookupRow [] k.page k.opcode := by
  rw [lookupRow_eq, lookupRow_eq, Cell.assigned_iff.mp h, ExtMap.position_nil]

theorem Cell.opcodeByte_of_std {m : ExtMap} {k : Cell} (h : k.page = .std) : k.opcodeByte m = k.opcode := by
  simp only [Cell.opcodeByte, h]

/-- The bytes of a well-formed unit are read as that unit, whatever follows. -/
theorem reads_encode {m : ExtMap} {c : Context} {i : Instr} (h : WellFormed m c i = true) (rest : List Byte) :
    Reads m c (encode m c i ++ rest) i rest := by
  cases hk : i.cell with
  | none =>
    obtain ⟨f, rfl⟩ | ⟨f, rfl⟩ | rfl := Instr.cell_eq_none hk
    · obtain ⟨hfirst, hstd⟩ := wellFormed_prefix1_iff.mp h
      have hreads : Reads m c (f.toByte :: rest) _ rest := .prefix1 _ _ hstd hfirst (isPrefix1_toByte f)
      rwa [Prefix1.ofByte_toByte] at hreads
    · obtain ⟨honce, hstd⟩ := wellFormed_prefix2_iff.mp h
      have hreads : Reads m c (f.toByte :: rest) _ rest := .prefix2 _ _ hstd honce (isPrefix2_toByte f)
      rwa [Prefix2.ofByte_toByte] at hreads
    · exact .extPage rest (wellFormed_extPage_iff.mp h)
  | some k =>
    obtain ⟨hpage, hreach, hassigned, hfits⟩ := (wellFormed_iff_of_cell hk).mp h
    obtain ⟨r, hrow, hmode, rfl⟩ := rowOfCell i k hk
    rw [encode_of_cell hk, List.cons_append]
    refine .opcode _ _ r k.operand rest ?row ?operand fun hstd hb => ?reachable
    case row => rw [← hpage, lookupRow_opcodeByte hassigned, hrow]
    case operand => rw [hmode, takeOperand_operandBytesLE hfits]
    case reachable =>
      rw [← hpage] at hstd
      rw [Cell.opcodeByte_of_std hstd] at hb
      exact hreach hstd hb

/-- A unit that is read is well formed in its context. -/
theorem Reads.wellFormed {m : ExtMap} {c : Context} {bs rest : List Byte} {i : Instr} (h : Reads m c bs i rest) :
    WellFormed m c i = true := by
  cases h with
  | prefix1 _ _ std first => exact wellFormed_prefix1_iff.mpr ⟨first, std⟩
  | prefix2 _ _ std once => exact wellFormed_prefix2_iff.mpr ⟨once, std⟩
  | extPage _ std => exact wellFormed_extPage_iff.mpr std
  | opcode b _ r v _ row operand reachable =>
    refine (wellFormed_iff_of_cell (cell_of_lookupRow row operand)).mpr ⟨rfl, fun hstd hb => ?_, ?_, ?_⟩
    · have hposition : m.position c.page b = b := by rw [show c.page = .std from hstd]; rfl
      exact reachable hstd (hposition ▸ hb)
    · exact Cell.assigned_of_position rfl
    · exact toNat_lt_of_takeOperand (r.mode.operandBytes_le_eight _ _) operand

/-- Under the default `EXTMAP`, a unit that is read is written as the bytes it was read from. -/
theorem Reads.encode_eq {c : Context} {bs rest : List Byte} {i : Instr} (h : Reads [] c bs i rest) :
    encode [] c i ++ rest = bs := by
  cases h with
  | prefix1 b _ _ _ pattern => exact congrArg (· :: rest) (Prefix1.toByte_ofByte b pattern)
  | prefix2 b _ _ _ pattern => exact congrArg (· :: rest) (Prefix2.toByte_ofByte b pattern)
  | extPage => rfl
  | opcode b bs r v _ row operand =>
    rw [encode_of_cell (cell_of_lookupRow row operand), Cell.opcodeByte_nil, ExtMap.position_nil, List.cons_append,
      operandBytesLE_of_takeOperand (r.mode.operandBytes_le_eight _ _) operand]

/-! ### Whole instructions -/

theorem decode_encode {m : ExtMap} {c : Context} {i : Instr} (h : WellFormed m c i = true) (rest : List Byte) :
    decode m c (encode m c i ++ rest) = .ok (i, rest) :=
  decode_eq_ok_iff.mpr (reads_encode h rest)

/-- A well-formed unit before the opcode is taken into the record. -/
theorem decodeUnits_encode_of_extend {m : ExtMap} {c c' : Context} {i : Instr} (h : WellFormed m c i = true)
    (hext : c.extend i = some c') (n : Nat) (bs : List Byte) :
    decodeUnits m (n + 1) c (encode m c i ++ bs) = decodeUnits m n c' bs := by
  simp only [decodeUnits, decode_encode h, hext]

theorem decodeUnits_encode_of_opcode {m : ExtMap} {c : Context} {i : Instr} (h : WellFormed m c i = true)
    (hext : c.extend i = none) (n : Nat) (rest : List Byte) :
    decodeUnits m (n + 1) c (encode m c i ++ rest) = .ok (c, i, rest) := by
  simp only [decodeUnits, decode_encode h, hext]

/-- The byte of the record's prefix1, if it holds one (R84). -/
def Context.prefix1Bytes (c : Context) : List Byte := c.prefix1.toList.map Prefix1.toByte

/-- The byte of the record's prefix2, if it holds one (R84). -/
def Context.prefix2Bytes (c : Context) : List Byte := c.prefix2.toList.map Prefix2.toByte

/-- The page byte, if the record is on the EXT page (R84, R90). -/
def Context.pageBytes (c : Context) : List Byte := if c.page = .ext then [extPageByte] else []

theorem encodeInstruction_eq (m : ExtMap) (c : Context) (i : Instr) :
    encodeInstruction m c i = c.prefix1Bytes ++ (c.prefix2Bytes ++ (c.pageBytes ++ encode m c i)) := by
  obtain ⟨p1, p2, page⟩ := c
  cases p1 <;> cases p2 <;> cases page <;> rfl

/-- `n` units, or more, read a whole instruction from the bytes. -/
def UnitsRead (m : ExtMap) (n : Nat) (c : Context) (bs : List Byte) (q : Context × Instr × List Byte) : Prop :=
  ∀ k, decodeUnits m (n + k) c bs = .ok q

section UnitsRead

variable {m : ExtMap} {n : Nat} {c : Context} {bs : List Byte} {q : Context × Instr × List Byte}

theorem UnitsRead.succ (h : UnitsRead m n c bs q) : UnitsRead m (n + 1) c bs q := fun k => by
  rw [Nat.add_right_comm]
  exact h (k + 1)

theorem UnitsRead.of_extend (h : UnitsRead m n c bs q) {c₀ : Context} {i : Instr} (hwf : WellFormed m c₀ i = true)
    (hext : c₀.extend i = some c) : UnitsRead m (n + 1) c₀ (encode m c₀ i ++ bs) q := fun k => by
  rw [Nat.add_right_comm, decodeUnits_encode_of_extend hwf hext]
  exact h k

/-- The page byte stands before the opcode if the record is on the EXT page (R84, R90). -/
theorem UnitsRead.page (h : UnitsRead m n c bs q) :
    UnitsRead m (n + 1) { c with page := .std } (c.pageBytes ++ bs) q := by
  obtain ⟨p1, p2, page⟩ := c
  cases page with
  | std => exact h.succ
  | ext => exact h.of_extend (i := .extPage) rfl rfl

/-- A prefix2 stands before them, if the record holds one (R84). -/
theorem UnitsRead.prefix2 (h : UnitsRead m n c bs q) (hpage : c.page = .std) :
    UnitsRead m (n + 1) { c with prefix2 := none } (c.prefix2Bytes ++ bs) q := by
  obtain ⟨p1, p2, page⟩ := c
  cases p2 with
  | none => exact h.succ
  | some f => exact h.of_extend (i := .prefix2 f) (wellFormed_prefix2_iff.mpr ⟨rfl, hpage⟩) rfl

/-- A prefix1 stands first, if the record holds one (R84). -/
theorem UnitsRead.prefix1 (h : UnitsRead m n c bs q) (hpage : c.page = .std) (hsecond : c.prefix2 = none) :
    UnitsRead m (n + 1) { c with prefix1 := none } (c.prefix1Bytes ++ bs) q := by
  obtain ⟨p1, p2, page⟩ := c
  cases p1 with
  | none => exact h.succ
  | some f => exact h.of_extend (i := .prefix1 f) (wellFormed_prefix1_iff.mpr ⟨⟨rfl, hsecond⟩, hpage⟩) rfl

end UnitsRead

/-! ### The statements -/

/-- Settles O1: what the encoder writes is read, and what is read is what `decode` answers. -/
theorem decodeReadsEncoding : Obligations.DecodeReadsEncoding :=
  fun _ _ _ rest h => decode_encode h rest

/-- Settles O2, by the kind of unit that was read. -/
theorem encodingReadsBack : Obligations.EncodingReadsBack :=
  fun _ _ _ _ h => (decode_eq_ok_iff.mp h).encode_eq

/-- Settles O3, by the kind of unit that was read. -/
theorem decodedIsWellFormed : Obligations.DecodedIsWellFormed :=
  fun _ _ _ _ _ h => (decode_eq_ok_iff.mp h).wellFormed

/-- Settles O4, unit by unit from the opcode back to the prefix1. -/
theorem instructionReadsEncoding : Obligations.InstructionReadsEncoding := by
  intro m c i rest hext hwf
  have hopcode : UnitsRead m 1 c (encode m c i ++ rest) (c, i, rest) := fun k => by
    rw [Nat.add_comm, decodeUnits_encode_of_opcode hwf hext]
  have hread : UnitsRead m 4 .start _ (c, i, rest) := (hopcode.page.prefix2 rfl).prefix1 rfl rfl
  simp only [decodeInstruction, encodeInstruction_eq, List.append_assoc]
  exact hread 0

/-- Settles O5, by running the decoder. -/
theorem specWordsDecode : Obligations.SpecWordsDecode :=
  ⟨rfl, rfl, rfl, rfl, rfl⟩

/-- Settles O6: the two patterns exclude each other, and the page byte has neither. -/
theorem misplacedPrefixRefused : Obligations.MisplacedPrefixRefused := by
  intro m c b bs hpage
  refine ⟨fun hpattern hlate ham => ?_, fun hpattern hsecond => ?_⟩
  · have hfirst : ¬(c.prefix1 = none ∧ c.prefix2 = none) := fun ⟨h1, h2⟩ => hlate.elim (· h1) (· h2)
    have hcolumn : isPrefix2 b = false :=
      Bool.eq_false_iff.mpr fun h => Bool.false_ne_true ((isPrefix1_of_isPrefix2 b h).symm.trans hpattern)
    have hbyte : b ≠ extPageByte := by
      rintro rfl
      cases hpattern
    simp [decode, hpage, hpattern, hcolumn, hbyte, ham, hfirst]
  · simp [decode, hpage, hpattern, isPrefix1_of_isPrefix2 b hpattern, hsecond]

end Sys2Proof
end

section
/-! SUPPORT. What a step does with bytes that are no instruction, and what a unit before the opcode does (R83, R98, R444, R906). -/

namespace Sys2Proof

/-- An operand is read where there are bytes enough. -/
theorem takeOperand_isSome {n : Nat} {bs : List Byte} (h : n ≤ bs.length) : (takeOperand n bs).isSome = true := by
  induction n generalizing bs with
  | zero => rfl
  | succ n ih =>
    cases bs with
    | nil => cases h
    | cons b bs =>
      obtain ⟨q, hq⟩ := Option.isSome_iff_exists.mp (ih (Nat.le_of_succ_le_succ h))
      simp [takeOperand, hq]

/-- Where eight bytes follow the first one, which is the most an operand takes, the first byte alone decides that there is no
unit (R92, R98). -/
theorem decode_error_of_cons {m : ExtMap} {c : Context} {b : Byte} {bs : List Byte} {e : DecodeError} (hlen : 8 ≤ bs.length)
    (h : decode m c (b :: bs) = .error e) (more : List Byte) : decode m c (b :: more) = .error e := by
  obtain ⟨e', he⟩ | ⟨i, c', -, -, hi⟩ | ⟨page, r, -, hr⟩ := decode_cons m c b
  · rw [he] at h ⊢
    exact h
  · rw [hi] at h
    cases h
  · have henough := takeOperand_isSome ((r.mode.operandBytes_le_eight c.am c.rs).trans hlen)
    rw [hr, decodeOperand] at h
    split at h
    · cases h
    · next hnone => simp [hnone] at henough

/-- A record has room for three units (R84). -/
theorem Context.units_le_three (c : Context) : c.units ≤ 3 := by
  have h1 := Bool.toNat_le c.prefix1.isSome
  have h2 := Bool.toNat_le c.prefix2.isSome
  have h3 := Bool.toNat_le (c.page == .ext)
  unfold Context.units
  omega

namespace Machine

/-- Where a longer stretch of bytes from PC starts with no unit, neither does the window that is fetched. -/
theorem State.fetchUnit_error {s : State} {N : Nat} {e : DecodeError} (hN : 9 ≤ N)
    (h : decode s.opts.extMap s.ctx (s.loadBytes s.cur s.pc N) = .error e) : s.fetchUnit = .error e := by
  obtain ⟨N, rfl⟩ : ∃ k, N = k + 1 := ⟨N - 1, by omega⟩
  have hwindow : decode s.opts.extMap s.ctx s.fetchWindow = .error e :=
    decode_error_of_cons (by rw [State.length_loadBytes]; omega) h _
  simp only [State.fetchUnit, hwindow]

theorem runUnits_of_fetch_error {n : Nat} {s : State} {e : DecodeError} (h : s.fetchUnit = .error e) :
    runUnits (n + 1) s = .refused (.undecodable e) := by
  simp only [runUnits, h]

/-- The bytes behind a unit before the opcode are those behind PC. -/
theorem State.loadBytes_fetched_one (s : State) (c : Context) (k : Nat) :
    ({ s.fetched 1 with ctx := c } : State).loadBytes s.cur (s.addr (s.pc + BitVec.ofNat 64 1)) k
      = s.loadBytes s.cur (s.pc + BitVec.ofNat 64 1) k :=
  (s.loadBytes_record _ _ _ _ _ _ _).trans (s.loadBytes_congr_addr _ (s.addr_addr _) _)

/-- Where the bytes at PC do not decode, the units that run end in the decoder's reason: four units are more than the record has
room for, so that neither the decoder nor the machine runs out of units. -/
theorem runUnits_undecodable {n N : Nat} {s : State} {e : DecodeError} (hN : n + 8 ≤ N) (hroom : 4 ≤ s.ctx.units + n)
    (h : decodeUnits s.opts.extMap n s.ctx (s.loadBytes s.cur s.pc N) = .error e) :
    runUnits n s = .refused (.undecodable e) := by
  induction n generalizing N s with
  | zero =>
    have := s.ctx.units_le_three
    omega
  | succ n ih =>
    rw [decodeUnits] at h
    split at h
    · next hdecode =>
      cases h
      exact runUnits_of_fetch_error (State.fetchUnit_error (by omega) hdecode)
    next j rest hdecode =>
    obtain ⟨u, hfetch, hreads, rfl⟩ := State.fetchUnit_eq (by omega) hdecode
    split at h
    · next c' hext =>
      obtain ⟨hlen, hunits⟩ := hreads.fills c' hext
      rw [hlen] at hfetch h
      rw [runUnits_of_extend hfetch hext]
      refine ih (N := N - 1) (by omega) ?room (s.loadBytes_fetched_one c' (N - 1) ▸ h)
      case room =>
        change 4 ≤ c'.units + n
        omega
    · cases h

/-! ### The statements -/

/-- Settles O8: twelve bytes are enough for four units. -/
theorem stepRefusesUndecodable : Obligations.StepRefusesUndecodable := by
  intro s e h
  have hbytes : s.beginInstr.loadBytes s.cur (s.addr s.pc) 12 = s.loadBytes s.cur s.pc 12 :=
    (s.loadBytes_record _ _ _ _ _ _ _).trans (s.loadBytes_congr_addr _ (s.addr_addr _) _)
  exact runUnits_undecodable (N := 12) (s := s.beginInstr) (by decide) (Nat.le_add_left 4 _) (hbytes ▸ h)

/-- Settles O9, by what a unit before the opcode does. -/
theorem prefixBytesOnlySetFields : Obligations.PrefixBytesOnlySetFields :=
  fun _ _ _ => ⟨exec_of_extend rfl, exec_of_extend rfl, exec_of_extend rfl⟩

end Machine

end Sys2Proof
end

section
/-! SUPPORT. What the forms of each mnemonic execute, and that every executed form runs `CheckPrefix` first (R97, R162). -/

namespace Sys2Proof.Machine

/-! ### The operation of each mnemonic -/

/-- What a form of LEA refuses of its own: an offset register on a relative form, AM=1 on a quad form (D42, D43). -/
def leaRefusal (mode : AddrMode) (c : Context) : Option Stop :=
  match mode with
  | .relByte | .relWide => refuseIf (c.of != .none) .leaRelOffset
  | .quadZp | .quadZpX | .quadZpY | .quadAbs | .quadAbsX | .quadAbsY => refuseIf c.am .quadWithAm
  | _ => none

section Forms

variable (op : Word) (s : State)

theorem exec_oraForms : ∀ f ∈ oraForms,
    exec (f.make op) s = logicOp (· ||| ·) f.listed f.mode (f.mode.operandOf op) s := List.map_inj_left.mp rfl
theorem exec_andForms : ∀ f ∈ andForms,
    exec (f.make op) s = logicOp (· &&& ·) f.listed f.mode (f.mode.operandOf op) s := List.map_inj_left.mp rfl
theorem exec_eorForms : ∀ f ∈ eorForms,
    exec (f.make op) s = logicOp (· ^^^ ·) f.listed f.mode (f.mode.operandOf op) s := List.map_inj_left.mp rfl
theorem exec_adcForms : ∀ f ∈ adcForms,
    exec (f.make op) s = adcOp f.listed f.mode (f.mode.operandOf op) s := List.map_inj_left.mp rfl
theorem exec_sbcForms : ∀ f ∈ sbcForms,
    exec (f.make op) s = sbcOp f.listed f.mode (f.mode.operandOf op) s := List.map_inj_left.mp rfl
theorem exec_cmpForms : ∀ f ∈ cmpForms,
    exec (f.make op) s = compareOp .a f.listed f.mode (f.mode.operandOf op) s := List.map_inj_left.mp rfl
theorem exec_cpxForms : ∀ f ∈ cpxForms,
    exec (f.make op) s = compareOp .x f.listed f.mode (f.mode.operandOf op) s := List.map_inj_left.mp rfl
theorem exec_cpyForms : ∀ f ∈ cpyForms,
    exec (f.make op) s = compareOp .y f.listed f.mode (f.mode.operandOf op) s := List.map_inj_left.mp rfl
theorem exec_bitForms : ∀ f ∈ bitForms,
    exec (f.make op) s = bitOp bitFlags f.listed f.mode (f.mode.operandOf op) s := List.map_inj_left.mp rfl
theorem exec_ldaForms : ∀ f ∈ ldaForms,
    exec (f.make op) s = loadOp .a f.listed f.mode (f.mode.operandOf op) s := List.map_inj_left.mp rfl
theorem exec_ldxForms : ∀ f ∈ ldxForms,
    exec (f.make op) s = loadOp .x f.listed f.mode (f.mode.operandOf op) s := List.map_inj_left.mp rfl
theorem exec_ldyForms : ∀ f ∈ ldyForms,
    exec (f.make op) s = loadOp .y f.listed f.mode (f.mode.operandOf op) s := List.map_inj_left.mp rfl
theorem exec_staForms : ∀ f ∈ staForms,
    exec (f.make op) s = storeOp (s.reg .a) f.listed f.mode (f.mode.operandOf op) s := List.map_inj_left.mp rfl
theorem exec_stxForms : ∀ f ∈ stxForms,
    exec (f.make op) s = storeOp (s.reg .x) f.listed f.mode (f.mode.operandOf op) s := List.map_inj_left.mp rfl
theorem exec_styForms : ∀ f ∈ styForms,
    exec (f.make op) s = storeOp (s.reg .y) f.listed f.mode (f.mode.operandOf op) s := List.map_inj_left.mp rfl
theorem exec_stzForms : ∀ f ∈ stzForms,
    exec (f.make op) s = storeOp 0 f.listed f.mode (f.mode.operandOf op) s := List.map_inj_left.mp rfl
theorem exec_aslForms : ∀ f ∈ aslForms,
    exec (f.make op) s = rmwOp rmwAsl f.listed f.mode (f.mode.operandOf op) s := List.map_inj_left.mp rfl
theorem exec_lsrForms : ∀ f ∈ lsrForms,
    exec (f.make op) s = rmwOp rmwLsr f.listed f.mode (f.mode.operandOf op) s := List.map_inj_left.mp rfl
theorem exec_rolForms : ∀ f ∈ rolForms,
    exec (f.make op) s = rmwOp rmwRol f.listed f.mode (f.mode.operandOf op) s := List.map_inj_left.mp rfl
theorem exec_rorForms : ∀ f ∈ rorForms,
    exec (f.make op) s = rmwOp rmwRor f.listed f.mode (f.mode.operandOf op) s := List.map_inj_left.mp rfl
theorem exec_incForms : ∀ f ∈ incForms,
    exec (f.make op) s = rmwOp rmwInc f.listed f.mode (f.mode.operandOf op) s := List.map_inj_left.mp rfl
theorem exec_decForms : ∀ f ∈ decForms,
    exec (f.make op) s = rmwOp rmwDec f.listed f.mode (f.mode.operandOf op) s := List.map_inj_left.mp rfl
theorem exec_tsbForms : ∀ f ∈ tsbForms,
    exec (f.make op) s = rmwOp rmwTsb f.listed f.mode (f.mode.operandOf op) s := List.map_inj_left.mp rfl
theorem exec_trbForms : ∀ f ∈ trbForms,
    exec (f.make op) s = rmwOp rmwTrb f.listed f.mode (f.mode.operandOf op) s := List.map_inj_left.mp rfl
theorem exec_jmpForms : ∀ f ∈ jmpForms,
    exec (f.make op) s = jmpOp f.listed f.mode (f.mode.operandOf op) s := List.map_inj_left.mp rfl
theorem exec_jsrForms : ∀ f ∈ jsrForms,
    exec (f.make op) s = jsrOp f.listed f.mode (f.mode.operandOf op) s := List.map_inj_left.mp rfl
theorem exec_bsrForms : ∀ f ∈ bsrForms,
    exec (f.make op) s = bsrOp f.listed f.mode (f.mode.operandOf op) s := List.map_inj_left.mp rfl
theorem exec_leaForms : ∀ f ∈ leaForms,
    exec (f.make op) s = leaOp f.listed f.mode op (leaRefusal f.mode s.ctx) s := List.map_inj_left.mp rfl

end Forms

/-! ### What the forms check first -/

/-- The form runs `CheckPrefix` with the fields its cell lists, RS sizing its data, before anything else (R151, R162). -/
def ChecksPrefix (f : Form) : Prop :=
  ∀ (op : Word) (s : State), ∃ more t, exec (f.make op) s = complete ((checkPrefix f.listed s).or more) t

/-- The form runs `CheckPrefix` with the fields its cell lists, RS sizing no data, before anything else (R151, R162). -/
def ChecksPrefixNoWidth (f : Form) : Prop :=
  ∀ (op : Word) (s : State), ∃ more t, exec (f.make op) s = complete ((checkPrefixNoWidth f.listed s).or more) t

/-- Nothing but `CheckPrefix` can stop the form. -/
theorem ChecksPrefix.alone {f : Form} {next : Word → State → State}
    (h : ∀ op s, exec (f.make op) s = complete (checkPrefix f.listed s) (next op s)) : ChecksPrefix f :=
  fun op s => ⟨none, next op s, by rw [h, Option.or_none]⟩

theorem ChecksPrefixNoWidth.alone {f : Form} {next : Word → State → State}
    (h : ∀ op s, exec (f.make op) s = complete (checkPrefixNoWidth f.listed s) (next op s)) : ChecksPrefixNoWidth f :=
  fun op s => ⟨none, next op s, by rw [h, Option.or_none]⟩

theorem checksPrefix_of_exec {forms : List Form} {more : Form → Word → State → Option Stop}
    {next : Form → Word → State → State}
    (h : ∀ op s, ∀ f ∈ forms, exec (f.make op) s = complete ((checkPrefix f.listed s).or (more f op s)) (next f op s)) :
    ∀ f ∈ forms, ChecksPrefix f :=
  fun f hf op s => ⟨_, _, h op s f hf⟩

theorem checksPrefixNoWidth_of_exec {forms : List Form} {more : Form → Word → State → Option Stop}
    {next : Form → Word → State → State}
    (h : ∀ op s, ∀ f ∈ forms,
      exec (f.make op) s = complete ((checkPrefixNoWidth f.listed s).or (more f op s)) (next f op s)) :
    ∀ f ∈ forms, ChecksPrefixNoWidth f :=
  fun f hf op s => ⟨_, _, h op s f hf⟩

theorem dataForms_check : ∀ f ∈ dataForms, ChecksPrefix f := by
  unfold dataForms
  simp only [List.forall_mem_append, and_assoc]
  exact ⟨checksPrefix_of_exec exec_oraForms, checksPrefix_of_exec exec_andForms,
    checksPrefix_of_exec exec_eorForms, checksPrefix_of_exec exec_adcForms,
    checksPrefix_of_exec exec_sbcForms, checksPrefix_of_exec exec_cmpForms,
    checksPrefix_of_exec exec_cpxForms, checksPrefix_of_exec exec_cpyForms,
    checksPrefix_of_exec exec_bitForms, List.forall_mem_singleton.mpr fun _ _ => ⟨_, _, rfl⟩,
    checksPrefix_of_exec exec_ldaForms, checksPrefix_of_exec exec_ldxForms,
    checksPrefix_of_exec exec_ldyForms, checksPrefix_of_exec exec_staForms,
    checksPrefix_of_exec exec_stxForms, checksPrefix_of_exec exec_styForms,
    checksPrefix_of_exec exec_stzForms, checksPrefix_of_exec exec_aslForms,
    checksPrefix_of_exec exec_lsrForms, checksPrefix_of_exec exec_rolForms,
    checksPrefix_of_exec exec_rorForms, checksPrefix_of_exec exec_incForms,
    checksPrefix_of_exec exec_decForms, checksPrefix_of_exec exec_tsbForms,
    checksPrefix_of_exec exec_trbForms⟩

theorem registerForms_check : ∀ f ∈ registerForms, ChecksPrefix f := by
  unfold registerForms
  simp only [List.forall_mem_cons]
  repeat' apply And.intro
  iterate 23 exact .alone fun _ _ => rfl
  exact List.forall_mem_nil _

/-- RTS also checks the width of its return address, PHP its own width, and TRP raises its trap. -/
theorem controlForms_check : ∀ f ∈ controlForms, ChecksPrefixNoWidth f := by
  unfold controlForms
  simp only [List.forall_mem_cons]
  repeat' apply And.intro
  iterate 9 exact .alone fun _ _ => rfl
  · exact fun _ _ => ⟨_, _, rfl⟩
  · exact fun _ _ => ⟨_, _, rfl⟩
  iterate 4 exact .alone fun _ _ => rfl
  · exact fun _ _ => ⟨_, _, rfl⟩
  iterate 5 exact .alone fun _ _ => rfl
  exact List.forall_mem_nil _

theorem sizedForms_check : ∀ f ∈ sizedForms, ChecksPrefix f := by
  unfold sizedForms
  simp only [List.forall_mem_append, List.forall_mem_singleton]
  exact ⟨⟨dataForms_check, registerForms_check⟩, fun _ _ => ⟨_, _, rfl⟩⟩

theorem unsizedForms_check : ∀ f ∈ unsizedForms, ChecksPrefixNoWidth f := by
  unfold unsizedForms
  simp only [List.forall_mem_append, and_assoc]
  exact ⟨controlForms_check, checksPrefixNoWidth_of_exec exec_jmpForms,
    checksPrefixNoWidth_of_exec exec_jsrForms, checksPrefixNoWidth_of_exec exec_bsrForms,
    checksPrefixNoWidth_of_exec exec_leaForms⟩

/-! ### The refusal of a field that is not listed -/

theorem refuseIf_eq_some {c : Bool} {r : Refusal} {st : Stop} : refuseIf c r = some st ↔ c = true ∧ st = .refuses r := by
  cases c <;> simp [refuseIf, eq_comm]

/-- The check of the listed fields stops with a refusal that names a field, or for a missing AM=1 (R162). -/
theorem checkListed_eq_some {l : Listed} {s : State} {st : Stop} (h : checkListed l s = some st) :
    ∃ r, st = .refuses r ∧ (r = .amRequired ∨ ∃ field, r = .unlistedField field) := by
  simp only [checkListed, Option.or_eq_some_iff, refuseIf_eq_some] at h
  obtain ⟨-, rfl⟩ | ⟨-, ⟨-, rfl⟩ | ⟨-, ⟨-, rfl⟩ | ⟨-, ⟨-, rfl⟩ | ⟨-, ⟨-, rfl⟩ | ⟨-, ⟨-, rfl⟩ | ⟨-, -, rfl⟩⟩⟩⟩⟩⟩ := h
  case inr.inr.inr.inl => exact ⟨_, rfl, .inl rfl⟩
  all_goals exact ⟨_, rfl, .inr ⟨_, rfl⟩⟩

/-- An instruction that checks the listed fields first refuses a field that is not listed. -/
theorem complete_unlisted {l : Listed} {s : State} (h : ¬FieldsListed l s) (more : Option Stop) (t : State) :
    ∃ r, complete ((checkListed l s).or more) t = .refused r ∧ (r = .amRequired ∨ ∃ field, r = .unlistedField field) := by
  cases hcheck : checkListed l s with
  | none => exact absurd (checkListed_eq_none.mp hcheck) h
  | some st =>
    obtain ⟨r, rfl, hr⟩ := checkListed_eq_some hcheck
    exact ⟨r, rfl, hr⟩

/-- Settles O10: the `CheckPrefix` of every form begins with the fields its cell lists. -/
theorem unlistedFieldRefused : Obligations.UnlistedFieldRefused := by
  intro f hf op s h
  obtain hsized | hunsized := List.mem_append.mp hf
  · obtain ⟨more, t, hexec⟩ := sizedForms_check f hsized op s
    rw [hexec, checkPrefix, Option.or_assoc]
    exact complete_unlisted h _ t
  · obtain ⟨more, t, hexec⟩ := unsizedForms_check f hunsized op s
    rw [hexec, checkPrefixNoWidth, Option.or_assoc]
    exact complete_unlisted h _ t

end Sys2Proof.Machine
end

section
/-! SUPPORT. An opcode reads the record of its instruction through OF, RS, AM and prefix2 alone, and leaves the record as it is: a
prefix1 whose fields are all zero is none (R86, R130). -/

namespace Sys2Proof.Machine

/-! ### States that differ in a record with the same fields -/

/-- The state with another record. -/
def State.withRecord (s : State) (c : Context) : State := { s with ctx := c }

/-- Two records with the same OF, RS and AM, and the same prefix2 present in both or in none (R130, R153). -/
structure SameFields (c d : Context) : Prop where
  of : c.of = d.of
  rs : c.rs = d.rs
  am : c.am = d.am
  prefix2 : c.prefix2 = d.prefix2

theorem SameFields.um {c d : Context} (h : SameFields c d) : c.um = d.um := by simp only [Context.um, h.prefix2]
theorem SameFields.nf {c d : Context} (h : SameFields c d) : c.nf = d.nf := by simp only [Context.nf, h.prefix2]

theorem sameFields_zeroPrefix1 {c : Context} (h : c.prefix1 = none) :
    SameFields { c with prefix1 := some ⟨.none, .b8, false⟩ } c := by
  constructor <;> simp [Context.of, Context.rs, Context.am, h]

/-- The outcome with the record of its next state replaced. -/
def Outcome.withRecord (c : Context) : Outcome → Outcome
  | .next t => .next (t.withRecord c)
  | .fault f => .fault f
  | .refused r => .refused r

theorem complete_withRecord (c : Context) (st : Option Stop) (t : State) :
    complete st (t.withRecord c) = Outcome.withRecord c (complete st t) := by
  obtain _ | _ | _ := st <;> rfl

/-! ### The record does not change what the operations do -/

section Operations

variable (s : State) (c : Context)

@[simp] theorem State.withRecord_ctx : (s.withRecord c).ctx = c := rfl
@[simp] theorem State.withRecord_p : (s.withRecord c).p = s.p := rfl
@[simp] theorem State.withRecord_pc : (s.withRecord c).pc = s.pc := rfl
@[simp] theorem State.withRecord_opts : (s.withRecord c).opts = s.opts := rfl
@[simp] theorem State.withRecord_W : (s.withRecord c).W = s.W := rfl
@[simp] theorem State.withRecord_AW : (s.withRecord c).AW = s.AW := rfl
@[simp] theorem State.withRecord_addr (v : Word) : (s.withRecord c).addr v = s.addr v := rfl
@[simp] theorem State.withRecord_reg (r : Reg) : (s.withRecord c).reg r = s.reg r := by cases r <;> rfl
@[simp] theorem State.withRecord_sp (um : Bool) : (s.withRecord c).sp um = s.sp um := rfl
@[simp] theorem State.withRecord_envFor (um : Bool) : (s.withRecord c).envFor um = s.envFor um := rfl
@[simp] theorem State.withRecord_pushAddr (um : Bool) (k : Nat) : (s.withRecord c).pushAddr um k = s.pushAddr um k := rfl
@[simp] theorem State.withRecord_pullAddr (um : Bool) : (s.withRecord c).pullAddr um = s.pullAddr um := rfl

@[simp] theorem State.withRecord_indexBefore (mode : AddrMode) :
    (s.withRecord c).indexBefore mode = s.indexBefore mode := by cases mode <;> rfl
@[simp] theorem State.withRecord_indexAfter (mode : AddrMode) :
    (s.withRecord c).indexAfter mode = s.indexAfter mode := by cases mode <;> rfl

@[simp] theorem State.withRecord_memRead (env : Mode) (a : Word) (n : Nat) :
    (s.withRecord c).memRead env a n = s.memRead env a n := by
  induction n generalizing a with
  | zero => rfl
  | succ n ih =>
    rw [State.memRead, State.memRead, ih]
    rfl

@[simp] theorem State.withRecord_pulled (um : Bool) (k : Nat) : (s.withRecord c).pulled um k = s.pulled um k := by
  simp [State.pulled]

@[simp] theorem State.withRecord_setReg (r : Reg) (v : Word) :
    (s.withRecord c).setReg r v = (s.setReg r v).withRecord c := by cases r <;> rfl

@[simp] theorem State.withRecord_setPc (v : Word) : (s.withRecord c).setPc v = (s.setPc v).withRecord c := rfl
@[simp] theorem State.withRecord_setFlags (p : Flags) : (s.withRecord c).setFlags p = (s.setFlags p).withRecord c := rfl

@[simp] theorem State.withRecord_setSp (um : Bool) (v : Word) :
    (s.withRecord c).setSp um v = (s.setSp um v).withRecord c := by
  have huser : (s.withRecord c).usesUserStack um = s.usesUserStack um := rfl
  simp only [State.setSp, huser]
  split <;> rfl

@[simp] theorem State.withRecord_memWrite (env : Mode) (a : Word) (n : Nat) (v : Word) :
    (s.withRecord c).memWrite env a n v = (s.memWrite env a n v).withRecord c := by
  induction n generalizing s a v with
  | zero => rfl
  | succ n ih => exact ih (s.setByte env a (v.setWidth 8)) (a + 1) (v >>> 8)

@[simp] theorem State.withRecord_push (um : Bool) (k : Nat) (v : Word) :
    (s.withRecord c).push um k v = (s.push um k v).withRecord c := by
  simp [State.push]

@[simp] theorem State.withRecord_afterPull (um : Bool) (k : Nat) :
    (s.withRecord c).afterPull um k = (s.afterPull um k).withRecord c := by
  simp [State.afterPull]

theorem State.withRecord_updateFlags {s : State} {c : Context} (hnf : c.nf = s.ctx.nf) (p : Flags) :
    (s.withRecord c).updateFlags p = (s.updateFlags p).withRecord c := by
  simp only [State.updateFlags, State.withRecord_ctx, hnf]
  split <;> rfl

end Operations

/-! ### What reads the record -/

section Fields

variable {s : State} {c : Context} (h : SameFields c s.ctx)
include h

theorem withRecord_n : (s.withRecord c).n = s.n := congrArg OpSize.bytes h.rs
theorem withRecord_w : (s.withRecord c).w = s.w := congrArg (8 * ·.bytes) h.rs
theorem withRecord_leEff (d : LoadExt) : (s.withRecord c).leEff d = s.leEff d := by simp [State.leEff, h.prefix2]
theorem withRecord_retBytes : (s.withRecord c).retBytes = s.retBytes := by simp [State.retBytes, h.rs, withRecord_n h]

theorem withRecord_opWidth (le : LoadExt) : (s.withRecord c).opWidth le = s.opWidth le := by
  cases le <;> simp [State.opWidth, withRecord_w h]

theorem withRecord_extend (le : LoadExt) (m : Word) : (s.withRecord c).extend le m = s.extend le m := by
  cases le <;> simp [State.extend, withRecord_w h]

theorem withRecord_loaded (old m : Word) : (s.withRecord c).loaded old m = s.loaded old m := by
  simp only [State.loaded, withRecord_leEff h, withRecord_w h, withRecord_extend h]

theorem withRecord_offReg : (s.withRecord c).offReg = s.offReg := by
  simp only [State.offReg, State.withRecord_ctx, h.of, h.um]
  rfl

theorem withRecord_directEA (mode : AddrMode) (op : Word) : directEA mode op (s.withRecord c) = directEA mode op s := by
  simp [directEA, withRecord_offReg h]

theorem withRecord_effectiveAddress (mode : AddrMode) (op : Word) (env : Mode) :
    effectiveAddress mode op env (s.withRecord c) = effectiveAddress mode op env s := by
  cases mode with
  | branch | relByte | relWide => simp [effectiveAddress, relOffset, h.am, h.rs]
  | indE | implied | imm | trapCode => rfl
  | zp | zpX | zpY | abs | absX | absY | long => exact withRecord_directEA h _ op
  | _ => simp [effectiveAddress, withRecord_directEA h, h.am]

theorem withRecord_ea (mode : AddrMode) (op : Word) : (s.withRecord c).ea mode op = s.ea mode op := by
  simp [State.ea, withRecord_effectiveAddress h, h.um]

theorem withRecord_readOp (mode : AddrMode) (op : Word) : (s.withRecord c).readOp mode op = s.readOp mode op := by
  cases mode with
  | imm => simp [State.readOp, withRecord_w h]
  | _ => simp [State.readOp, withRecord_ea h, withRecord_n h, h.um]

/-! ### What can stop an instruction -/

theorem withRecord_checkListed (l : Listed) : checkListed l (s.withRecord c) = checkListed l s := by
  simp only [checkListed, State.withRecord_ctx, h.of, h.rs, h.am, h.um, h.nf, h.prefix2]

theorem withRecord_checkUm : checkUm (s.withRecord c) = checkUm s := by
  simp only [checkUm, State.withRecord_ctx, h.um]
  rfl

theorem withRecord_checkPcrel : checkPcrel (s.withRecord c) = checkPcrel s := by
  simp [checkPcrel, h.of]

theorem withRecord_checkPrefix (l : Listed) : checkPrefix l (s.withRecord c) = checkPrefix l s := by
  simp only [checkPrefix, withRecord_checkListed h, withRecord_checkUm h, withRecord_checkPcrel h, checkWidth,
    State.withRecord_W, withRecord_w h]

theorem withRecord_checkPrefixNoWidth (l : Listed) : checkPrefixNoWidth l (s.withRecord c) = checkPrefixNoWidth l s := by
  simp only [checkPrefixNoWidth, withRecord_checkListed h, withRecord_checkUm h, withRecord_checkPcrel h]

theorem withRecord_checkZeroPage (mode : AddrMode) (op : Word) :
    checkZeroPage mode op (s.withRecord c) = checkZeroPage mode op s := by
  simp [checkZeroPage, h.am, h.of]

theorem withRecord_checkData (l : Listed) (mode : AddrMode) (op : Word) :
    checkData l mode op (s.withRecord c) = checkData l mode op s := by
  simp only [checkData, withRecord_checkPrefix h, withRecord_checkZeroPage h]

theorem withRecord_checkArith (l : Listed) (mode : AddrMode) (op : Word) :
    checkArith l mode op (s.withRecord c) = checkArith l mode op s := by
  simp only [checkArith, withRecord_checkPrefix h, withRecord_checkZeroPage h, State.withRecord_p]

theorem withRecord_checkReturn : checkReturn (s.withRecord c) = checkReturn s := by
  simp [checkReturn, withRecord_retBytes h]

theorem withRecord_targetWidth (mode : AddrMode) : targetWidth mode (s.withRecord c) = targetWidth mode s := by
  simp only [targetWidth, State.withRecord_AW, State.withRecord_ctx, h.of, h.am, h.rs]

theorem withRecord_checkJump (mode : AddrMode) : checkJump mode (s.withRecord c) = checkJump mode s := by
  simp only [checkJump, withRecord_targetWidth h, State.withRecord_AW, State.withRecord_addr, State.withRecord_pc,
    State.withRecord_ctx, h.prefix2, h.um]

theorem withRecord_checkLong (mode : AddrMode) : checkLong mode (s.withRecord c) = checkLong mode s := by
  simp [checkLong, h.am]

/-! ### Next states -/

theorem withRecord_logicNext (f : Word → Word → Word) (mode : AddrMode) (op : Word) :
    logicNext f mode op (s.withRecord c) = (logicNext f mode op s).withRecord c := by
  simp [logicNext, withRecord_leEff h, withRecord_opWidth h, withRecord_extend h, withRecord_readOp h,
    State.withRecord_updateFlags, h.nf]

theorem withRecord_adcNext (mode : AddrMode) (op : Word) :
    adcNext mode op (s.withRecord c) = (adcNext mode op s).withRecord c := by
  simp [adcNext, withRecord_leEff h, withRecord_opWidth h, withRecord_extend h, withRecord_readOp h,
    State.withRecord_updateFlags, h.nf]

theorem withRecord_sbcNext (mode : AddrMode) (op : Word) :
    sbcNext mode op (s.withRecord c) = (sbcNext mode op s).withRecord c := by
  simp [sbcNext, withRecord_leEff h, withRecord_opWidth h, withRecord_extend h, withRecord_readOp h,
    State.withRecord_updateFlags, h.nf]

theorem withRecord_compareNext (r : Reg) (mode : AddrMode) (op : Word) :
    compareNext r mode op (s.withRecord c) = (compareNext r mode op s).withRecord c := by
  simp [compareNext, withRecord_leEff h, withRecord_opWidth h, withRecord_extend h, withRecord_readOp h]

theorem withRecord_bitNext (f : Nat → Word → Word → Flags → Flags) (mode : AddrMode) (op : Word) :
    bitNext f mode op (s.withRecord c) = (bitNext f mode op s).withRecord c := by
  simp [bitNext, withRecord_leEff h, withRecord_opWidth h, withRecord_extend h, withRecord_readOp h,
    State.withRecord_updateFlags, h.nf]

theorem withRecord_bitAccNext : bitAccNext (s.withRecord c) = (bitAccNext s).withRecord c := by
  simp only [bitAccNext, State.withRecord_ctx, h.nf, withRecord_w h]
  split <;> rfl

theorem withRecord_loadNext (r : Reg) (mode : AddrMode) (op : Word) :
    loadNext r mode op (s.withRecord c) = (loadNext r mode op s).withRecord c := by
  simp [loadNext, withRecord_w h, withRecord_loaded h, withRecord_readOp h, State.withRecord_updateFlags, h.nf]

theorem withRecord_storeNext (v : Word) (mode : AddrMode) (op : Word) :
    storeNext v mode op (s.withRecord c) = (storeNext v mode op s).withRecord c := by
  simp [storeNext, withRecord_n h, withRecord_ea h, h.um]

theorem withRecord_rmwNext (f : Rmw) (mode : AddrMode) (op : Word) :
    rmwNext f mode op (s.withRecord c) = (rmwNext f mode op s).withRecord c := by
  simp [rmwNext, withRecord_n h, withRecord_w h, withRecord_ea h, h.um, State.withRecord_updateFlags, h.nf]

theorem withRecord_rmwRegNext (f : Rmw) (r : Reg) :
    rmwRegNext f r (s.withRecord c) = (rmwRegNext f r s).withRecord c := by
  simp [rmwRegNext, withRecord_w h, State.withRecord_updateFlags, h.nf]

theorem withRecord_transferNext (v : Word) (r : Reg) :
    transferNext v r (s.withRecord c) = (transferNext v r s).withRecord c := by
  simp [transferNext, withRecord_w h, withRecord_loaded h, State.withRecord_updateFlags, h.nf]

theorem withRecord_txsNext : txsNext (s.withRecord c) = (txsNext s).withRecord c := by
  simp [txsNext, withRecord_w h, withRecord_loaded h, h.um]

theorem withRecord_pushNext (v : Word) : pushNext v (s.withRecord c) = (pushNext v s).withRecord c := by
  simp [pushNext, withRecord_n h, h.um]

theorem withRecord_pullNext (r : Reg) : pullNext r (s.withRecord c) = (pullNext r s).withRecord c := by
  simp [pullNext, withRecord_n h, withRecord_w h, withRecord_loaded h, h.um, State.withRecord_updateFlags, h.nf]

theorem withRecord_phpNext : phpNext (s.withRecord c) = (phpNext s).withRecord c := by
  simp [phpNext, h.um]

theorem withRecord_branchNext (taken : Bool) (op : Word) :
    branchNext taken op (s.withRecord c) = (branchNext taken op s).withRecord c := by
  simp only [branchNext, withRecord_ea h, State.withRecord_setPc]
  split <;> rfl

theorem withRecord_pushReturn : pushReturn (s.withRecord c) = (pushReturn s).withRecord c := by
  simp [pushReturn, withRecord_retBytes h]

theorem withRecord_rtsNext : rtsNext (s.withRecord c) = (rtsNext s).withRecord c := by
  simp [rtsNext, withRecord_retBytes h]

theorem withRecord_leaNext (mode : AddrMode) (op : Word) :
    leaNext mode op (s.withRecord c) = (leaNext mode op s).withRecord c := by
  simp only [leaNext, State.withRecord_ctx, h.nf, withRecord_ea h]
  split <;> rfl

end Fields

/-! ### Every opcode -/

/-- The same reasons to stop and the same next state but for the record are the same outcome but for the record. -/
theorem complete_of_withRecord {c : Context} {st st' : Option Stop} {t t' : State} (hst : st' = st)
    (ht : t' = t.withRecord c) : complete st' t' = Outcome.withRecord c (complete st t) := by
  rw [hst, ht, complete_withRecord]

/-- A state in which a prefix2 with UM=1 stands before an instruction of user mode. -/
def State.umInUserMode : State :=
  { State.reset with mode := .user, ctx := ⟨none, some ⟨true, .none, false⟩, .std⟩ }

/-- With UM=1 in user mode no opcode completes: it is refused or raises the abort (R159, R162). -/
theorem exec_umInUserMode {i : Instr} (h : Context.start.extend i = none) (t : State) :
    exec i State.umInUserMode ≠ .next t := by
  cases i with
  | prefix1 | prefix2 | extPage => cases h
  | _ => exact fun hnext => by cases hnext

/-- Whatever an opcode means, a record with the same fields leads to the same outcome but for the record. That some state stops
the meaning tells it from those of prefix1, prefix2 and the page byte, which change the record. -/
theorem Meaning.withRecord {m : State → Outcome} (hm : Meaning m) (hopcode : ∃ s, ∀ t, m s ≠ .next t) {s : State}
    {c : Context} (h : SameFields c s.ctx) : m (s.withRecord c) = Outcome.withRecord c (m s) := by
  cases hm with
  | prefix1 | prefix2 | extPage =>
    obtain ⟨u, hu⟩ := hopcode
    exact absurd rfl (hu _)
  | refuse => rfl
  | brk => exact complete_of_withRecord (by rw [withRecord_checkPrefix h]; rfl) rfl
  | trp => exact complete_of_withRecord (by rw [withRecord_checkPrefixNoWidth h]; rfl) rfl
  | logic => exact complete_of_withRecord (withRecord_checkData h _ _ _) (withRecord_logicNext h _ _ _)
  | adc => exact complete_of_withRecord (withRecord_checkArith h _ _ _) (withRecord_adcNext h _ _)
  | sbc => exact complete_of_withRecord (withRecord_checkArith h _ _ _) (withRecord_sbcNext h _ _)
  | compare => exact complete_of_withRecord (withRecord_checkData h _ _ _) (withRecord_compareNext h _ _ _)
  | bit => exact complete_of_withRecord (withRecord_checkData h _ _ _) (withRecord_bitNext h _ _ _)
  | bitAcc => exact complete_of_withRecord (withRecord_checkPrefix h _) (withRecord_bitAccNext h)
  | load => exact complete_of_withRecord (withRecord_checkData h _ _ _) (withRecord_loadNext h _ _ _)
  | store r =>
    exact complete_of_withRecord (withRecord_checkData h _ _ _)
      (s.withRecord_reg c r ▸ withRecord_storeNext h _ _ _)
  | storeZero => exact complete_of_withRecord (withRecord_checkData h _ _ _) (withRecord_storeNext h _ _ _)
  | rmw => exact complete_of_withRecord (withRecord_checkData h _ _ _) (withRecord_rmwNext h _ _ _)
  | rmwReg => exact complete_of_withRecord (withRecord_checkPrefix h _) (withRecord_rmwRegNext h _ _)
  | transfer src =>
    exact complete_of_withRecord (withRecord_checkPrefix h _)
      (s.withRecord_reg c src ▸ withRecord_transferNext h _ _)
  | tsx =>
    exact complete_of_withRecord (withRecord_checkPrefix h _)
      (by rw [State.withRecord_sp, State.withRecord_ctx, h.um, withRecord_transferNext h])
  | txs => exact complete_of_withRecord (withRecord_checkPrefix h _) (withRecord_txsNext h)
  | push r => exact complete_of_withRecord (withRecord_checkPrefix h _) (s.withRecord_reg c r ▸ withRecord_pushNext h _)
  | pull => exact complete_of_withRecord (withRecord_checkPrefix h _) (withRecord_pullNext h _)
  | php =>
    exact complete_of_withRecord (by rw [withRecord_checkPrefixNoWidth h, State.withRecord_ctx, h.rs])
      (withRecord_phpNext h)
  | plp => exact complete_of_withRecord (withRecord_checkPrefixNoWidth h _) (by simp [plpNext])
  | branch taken => exact complete_of_withRecord (withRecord_checkPrefixNoWidth h _) (withRecord_branchNext h _ _)
  | jmp =>
    exact complete_of_withRecord
      (by simp only [checkJmp, withRecord_checkPrefixNoWidth h, withRecord_checkLong h, withRecord_checkJump h])
      (by rw [withRecord_ea h, State.withRecord_setPc])
  | jsr =>
    exact complete_of_withRecord
      (by simp only [checkJsr, withRecord_checkPrefixNoWidth h, withRecord_checkLong h, withRecord_checkReturn h,
        withRecord_checkJump h])
      (by rw [withRecord_ea h, withRecord_pushReturn h, State.withRecord_setPc])
  | bsr =>
    exact complete_of_withRecord (by rw [withRecord_checkPrefixNoWidth h, withRecord_checkReturn h])
      (by rw [withRecord_ea h, withRecord_pushReturn h, State.withRecord_setPc])
  | rts =>
    exact complete_of_withRecord (by rw [withRecord_checkPrefixNoWidth h, withRecord_checkReturn h])
      (withRecord_rtsNext h)
  | flag f => exact complete_of_withRecord (withRecord_checkPrefixNoWidth h _) rfl
  | nop => exact complete_of_withRecord (withRecord_checkPrefixNoWidth h _) rfl
  | lea mode op own =>
    exact complete_of_withRecord
      (by simp only [withRecord_checkPrefixNoWidth h, withRecord_checkZeroPage h, State.withRecord_ctx, h.of, h.am])
      (withRecord_leaNext h _ _)

/-- An opcode executed with a record of the same fields has the same outcome but for the record. -/
theorem exec_withRecord {i : Instr} (hopcode : Context.start.extend i = none) {s : State} {c : Context}
    (h : SameFields c s.ctx) : exec i (s.withRecord c) = Outcome.withRecord c (exec i s) :=
  (exec_meaning i).withRecord ⟨_, exec_umInUserMode hopcode⟩ h

theorem agree_withRecord (c : Context) (o : Outcome) :
    Outcome.Agree (fun t u => u = { t with ctx := c }) o (Outcome.withRecord c o) := by
  cases o <;> rfl

/-- Settles O55: the record with the zero prefix1 has the fields of the record without it. -/
theorem zeroPrefix1IsNeutral : Obligations.ZeroPrefix1IsNeutral := by
  intro i s hopcode hnone c
  have hexec := exec_withRecord (i := i) (s := s) (c := c) hopcode (sameFields_zeroPrefix1 hnone)
  change Outcome.Agree _ (exec i s) (exec i (s.withRecord c))
  rw [hexec]
  exact agree_withRecord c (exec i s)

end Sys2Proof.Machine
end

section
/-! SUPPORT. Which reason stops a form: the checks in the order of R911, and the refusals of single instructions (R132, R135 to
R137, R139, R151, R159, R162, R171, R172). -/

namespace Sys2Proof.Machine

/-! ### The first reason decides -/

/-- What a reason to stop answers. -/
def Stop.outcome : Stop → Outcome
  | .raises f => .fault f
  | .refuses r => .refused r

theorem complete_some (st : Stop) (t : State) : complete (some st) t = st.outcome := by
  cases st <;> rfl

/-- A check that stops an instruction decides its outcome, whatever else is checked after it. -/
theorem complete_or_of_some {check : Option Stop} {st : Stop} (h : check = some st) (more : Option Stop) (t : State) :
    complete (check.or more) t = st.outcome := by
  rw [h, Option.some_or, complete_some]

/-- A check that passes leaves the outcome to the checks after it. -/
theorem complete_or_of_none {check : Option Stop} (h : check = none) (more : Option Stop) (t : State) :
    complete (check.or more) t = complete more t := by
  rw [h, Option.none_or]

/-! ### The checks that stop -/

theorem refuseIf_of_ne_none {c : Bool} {r : Refusal} (h : refuseIf c r ≠ none) : refuseIf c r = some (.refuses r) := by
  cases c with
  | false => exact absurd rfl h
  | true => rfl

theorem checkUm_without_hypervisor {s : State} (hum : s.ctx.um = true) (hhyp : s.opts.hyp = false) :
    checkUm s = some (.refuses .umWithoutHypervisor) := by
  simp [checkUm, hum, hhyp]

theorem checkUm_in_user_mode {s : State} (hum : s.ctx.um = true) (hhyp : s.opts.hyp = true) (hmode : s.mode = .user) :
    checkUm s = some (.raises (.abortUmInUserMode s.start s.pc)) := by
  simp [checkUm, State.modeNow, raise, hum, hhyp, hmode]

theorem checkWidth_of_wide {s : State} (h : s.W < s.w) : checkWidth s = some (.refuses .widthAboveRegister) :=
  refuseIf_of_ne_none fun hnone => absurd (checkWidth_eq_none.mp hnone) (by omega)

theorem checkPcrel_of_unset {s : State} (hof : s.ctx.of = .pc) (hbase : s.opts.pcrelBase = none) :
    checkPcrel s = some (.refuses .pcrelBaseUnset) :=
  refuseIf_of_ne_none fun hnone => checkPcrel_eq_none.mp hnone hof hbase

theorem checkZeroPage_of_wrap {mode : AddrMode} {op : Word} {s : State} (h : ¬InsidePageZero mode op s) :
    checkZeroPage mode op s = some (.refuses .zeroPageWrap) :=
  refuseIf_of_ne_none (mt checkZeroPage_eq_none.mp h)

theorem checkReturn_of_not_ready {s : State} (h : ¬ReturnReady s) : checkReturn s = some (.refuses .returnWidth) :=
  refuseIf_of_ne_none (mt checkReturn_eq_none.mp h)

theorem checkLong_of_am {s : State} (ham : s.ctx.am = true) : checkLong .long s = some (.refuses .longWithAm) := by
  simp [checkLong, refuseIf, ham]

/-! ### UM, width and PCREL_BASE -/

/-- A form whose fields are all listed stops for UM before any later check (R159, R911). -/
theorem exec_of_checkUm {f : Form} (hf : f ∈ executedForms) (op : Word) {s : State} (hlisted : FieldsListed f.listed s)
    {st : Stop} (hum : checkUm s = some st) : exec (f.make op) s = st.outcome := by
  have hnone := checkListed_eq_none.mpr hlisted
  obtain hsized | hunsized := List.mem_append.mp hf
  · obtain ⟨more, t, hexec⟩ := sizedForms_check f hsized op s
    rw [hexec, checkPrefix, hnone, Option.none_or, Option.or_assoc, complete_or_of_some hum]
  · obtain ⟨more, t, hexec⟩ := unsizedForms_check f hunsized op s
    rw [hexec, checkPrefixNoWidth, hnone, Option.none_or, Option.or_assoc, complete_or_of_some hum]

/-- Settles O11: UM is checked right after the listed fields. -/
theorem umIsPrivileged : Obligations.UmIsPrivileged := by
  intro f hf op s hlisted hum
  constructor
  · exact fun hhyp => exec_of_checkUm hf op hlisted (checkUm_without_hypervisor hum hhyp)
  · exact fun hhyp hmode => exec_of_checkUm hf op hlisted (checkUm_in_user_mode hum hhyp hmode)

/-- Where the listed fields and UM pass, a form whose data RS sizes stops for its width and then for `PCREL_BASE`. -/
theorem exec_of_width_or_pcrel {f : Form} (hf : f ∈ sizedForms) (op : Word) {s : State} (hlisted : FieldsListed f.listed s)
    (hum : UmAllowed s) {st : Stop} (h : (checkWidth s).or (checkPcrel s) = some st) :
    exec (f.make op) s = st.outcome := by
  obtain ⟨more, t, hexec⟩ := sizedForms_check f hf op s
  rw [hexec, checkPrefix, checkListed_eq_none.mpr hlisted, checkUm_eq_none.mpr hum, Option.none_or, Option.none_or,
    complete_or_of_some h]

/-- Settles O12: the width is checked right after the listed fields and UM. -/
theorem wideOperationRefused : Obligations.WideOperationRefused := by
  intro f hf op s hlisted hum hwide
  refine exec_of_width_or_pcrel (st := .refuses .widthAboveRegister) hf op hlisted hum ?_
  rw [checkWidth_of_wide hwide, Option.some_or]

/-- ADC and SBC check decimal mode right after `CheckPrefix` (D15, R911). -/
theorem checkArith_decimal {l : Listed} {s : State} (hs : AcceptedData l s) (hd : s.p.d = true) (mode : AddrMode)
    (op : Word) : checkArith l mode op s = some (.refuses .decimalMode) := by
  simp [checkArith, checkPrefix_eq_none.mpr hs, refuseIf, hd]

/-- Settles O13: each check is reached because those before it pass. -/
theorem openParametersRefused : Obligations.OpenParametersRefused := by
  refine ⟨?sized, ?unsized, ?decimal⟩
  case sized =>
    intro f hf op s hlisted hum hw hof hbase
    refine exec_of_width_or_pcrel (st := .refuses .pcrelBaseUnset) hf op hlisted hum ?_
    rw [checkWidth_eq_none.mpr hw, Option.none_or, checkPcrel_of_unset hof hbase]
  case unsized =>
    intro f hf op s hlisted hum hof hbase
    obtain ⟨more, t, hexec⟩ := unsizedForms_check f hf op s
    rw [hexec, checkPrefixNoWidth, checkListed_eq_none.mpr hlisted, checkUm_eq_none.mpr hum, Option.none_or,
      Option.none_or, complete_or_of_some (checkPcrel_of_unset hof hbase)]
    rfl
  case decimal =>
    intro f hf op s hs hd
    obtain hadc | hsbc := List.mem_append.mp hf
    · rw [exec_adcForms op s f hadc, adcOp, checkArith_decimal hs hd]
      rfl
    · rw [exec_sbcForms op s f hsbc, sbcOp, checkArith_decimal hs hd]
      rfl

/-! ### Page zero -/

/-- In binary mode nothing stops the form but what can stop any data operand (R135, R136, R162). -/
def ChecksData (f : Form) : Prop :=
  ∀ (op : Word) (s : State), s.p.d = false →
    ∃ t, exec (f.make op) s = complete (checkData f.listed f.mode (f.mode.operandOf op) s) t

theorem checkArith_binary {s : State} (hd : s.p.d = false) (l : Listed) (mode : AddrMode) (op : Word) :
    checkArith l mode op s = checkData l mode op s := by
  rw [checkArith, checkData, refuseIf_eq_none.mpr hd, Option.none_or]

theorem checksData_of_exec {forms : List Form} {next : Form → Word → State → State}
    (h : ∀ op s, ∀ f ∈ forms,
      exec (f.make op) s = complete (checkData f.listed f.mode (f.mode.operandOf op) s) (next f op s)) :
    ∀ f ∈ forms, ChecksData f :=
  fun f hf op s _ => ⟨_, h op s f hf⟩

theorem checksData_of_exec_arith {forms : List Form} {next : Form → Word → State → State}
    (h : ∀ op s, ∀ f ∈ forms,
      exec (f.make op) s = complete (checkArith f.listed f.mode (f.mode.operandOf op) s) (next f op s)) :
    ∀ f ∈ forms, ChecksData f :=
  fun f hf op s hd => ⟨_, by rw [h op s f hf, checkArith_binary hd]⟩

theorem dataForms_checkData : ∀ f ∈ dataForms, ChecksData f := by
  unfold dataForms
  simp only [List.forall_mem_append, and_assoc]
  exact ⟨checksData_of_exec exec_oraForms, checksData_of_exec exec_andForms, checksData_of_exec exec_eorForms,
    checksData_of_exec_arith exec_adcForms, checksData_of_exec_arith exec_sbcForms, checksData_of_exec exec_cmpForms,
    checksData_of_exec exec_cpxForms, checksData_of_exec exec_cpyForms, checksData_of_exec exec_bitForms,
    List.forall_mem_singleton.mpr fun _ _ _ => ⟨_, rfl⟩, checksData_of_exec exec_ldaForms,
    checksData_of_exec exec_ldxForms, checksData_of_exec exec_ldyForms, checksData_of_exec exec_staForms,
    checksData_of_exec exec_stxForms, checksData_of_exec exec_styForms, checksData_of_exec exec_stzForms,
    checksData_of_exec exec_aslForms, checksData_of_exec exec_lsrForms, checksData_of_exec exec_rolForms,
    checksData_of_exec exec_rorForms, checksData_of_exec exec_incForms, checksData_of_exec exec_decForms,
    checksData_of_exec exec_tsbForms, checksData_of_exec exec_trbForms⟩

/-- A mode that can wrap in page zero has an operand. -/
theorem operandOf_of_isZeroPage {mode : AddrMode} (h : isZeroPage mode = true) (op : Word) :
    mode.operandOf op = op := by
  cases mode with
  | implied | indE => cases h
  | _ => rfl

/-- A wrap in page zero needs a zero-page mode, AM=0 and OF=00 (R135, R136). -/
theorem wraps_only_if {mode : AddrMode} {op : Word} {s : State} (h : ¬InsidePageZero mode op s) :
    isZeroPage mode = true ∧ s.ctx.am = false ∧ s.ctx.of = .none := by
  simp only [InsidePageZero, Classical.not_imp] at h
  obtain ⟨hmode, ham, hof, -⟩ := h
  exact ⟨hmode, ham, hof⟩

/-- With AM=0 and OF=00 no form of LEA has a refusal of its own (D42, D43). -/
theorem leaRefusal_of_plain {c : Context} (ham : c.am = false) (hof : c.of = .none) (mode : AddrMode) :
    leaRefusal mode c = none := by
  cases mode <;> simp [leaRefusal, refuseIf, ham, hof]

/-- Settles O14: the page-zero check is the last one, and the checks before it pass. -/
theorem pageZeroWrapRefused : Obligations.PageZeroWrapRefused := by
  constructor
  · intro f hf op s hs hd hwrap
    obtain ⟨t, hexec⟩ := dataForms_checkData f hf op s hd
    obtain ⟨hmode, -, -⟩ := wraps_only_if hwrap
    rw [hexec, operandOf_of_isZeroPage hmode, checkData, checkPrefix_eq_none.mpr hs, Option.none_or,
      checkZeroPage_of_wrap hwrap]
    rfl
  · intro f hf op s hs hwrap
    obtain ⟨-, ham, hof⟩ := wraps_only_if hwrap
    rw [exec_leaForms op s f hf, leaOp, checkPrefixNoWidth_eq_none.mpr hs, leaRefusal_of_plain ham hof, Option.none_or,
      Option.none_or, checkZeroPage_of_wrap hwrap]
    rfl

/-! ### PHP, long operands, LEA -/

theorem leaRefusal_quad {mode : AddrMode} {c : Context} (hquad : pointerSize mode false = 8) (ham : c.am = true) :
    leaRefusal mode c = some (.refuses .quadWithAm) := by
  cases mode with
  | quadZp | quadZpX | quadZpY | quadAbs | quadAbsX | quadAbsY => simp [leaRefusal, refuseIf, ham]
  | _ => cases hquad

theorem leaRefusal_rel {mode : AddrMode} {c : Context} (hrel : mode = .relByte ∨ mode = .relWide) (hof : c.of ≠ .none) :
    leaRefusal mode c = some (.refuses .leaRelOffset) := by
  obtain rfl | rfl := hrel <;> simp [leaRefusal, refuseIf, hof]

/-- An accepted form of LEA stops for its own refusal (R911). -/
theorem exec_leaForms_refused {f : Form} (hf : f ∈ leaForms) (op : Word) {s : State} (hs : Accepted f.listed s)
    {r : Refusal} (hown : leaRefusal f.mode s.ctx = some (.refuses r)) : exec (f.make op) s = .refused r := by
  rw [exec_leaForms op s f hf, leaOp, complete_or_of_none (checkPrefixNoWidth_eq_none.mpr hs), complete_or_of_some hown]
  rfl

/-- Settles O15: each instruction has one check of its own behind `CheckPrefix`. -/
theorem singleRefusals : Obligations.SingleRefusals := by
  intro op s
  refine ⟨?php, ?jmpLong, ?jsrLong, ?lea⟩
  case php =>
    intro hs hrs
    change execPhp s = _
    rw [execPhp, complete_or_of_none (checkPrefixNoWidth_eq_none.mpr hs)]
    simp [refuseIf, hrs, complete]
  case jmpLong =>
    intro hs ham
    change jmpOp .umOfLeAm .long op s = _
    rw [jmpOp, checkJmp, complete_or_of_none (checkPrefixNoWidth_eq_none.mpr hs),
      complete_or_of_some (checkLong_of_am ham)]
    rfl
  case jsrLong =>
    intro hs ham
    change jsrOp .rsOfLeAm .long op s = _
    rw [jsrOp, checkJsr, complete_or_of_none (checkPrefixNoWidth_eq_none.mpr hs),
      complete_or_of_some (checkLong_of_am ham)]
    rfl
  case lea =>
    intro f hf hs
    exact ⟨fun hquad ham => exec_leaForms_refused hf op hs (leaRefusal_quad hquad ham),
      fun hrel hof => exec_leaForms_refused hf op hs (leaRefusal_rel hrel hof)⟩

/-! ### Jumps and return addresses -/

/-- `JumpTo` refuses for the upper bits of `PC_next`, for LE, or for UM=1 (R172). -/
theorem checkJump_eq_some {mode : AddrMode} {s : State} {st : Stop} (h : checkJump mode s = some st) :
    ∃ r, st = .refuses r ∧ (r = .jumpUpperBits ∨ r = .jumpLe ∨ r = .jumpUm ∧ s.ctx.um = true) := by
  simp only [checkJump, Option.or_eq_some_iff, refuseIf_eq_some] at h
  obtain ⟨-, rfl⟩ | ⟨-, ⟨-, rfl⟩ | ⟨-, hum, rfl⟩⟩ := h
  · exact ⟨_, rfl, .inl rfl⟩
  · exact ⟨_, rfl, .inr (.inl rfl)⟩
  · exact ⟨_, rfl, .inr (.inr ⟨rfl, hum⟩)⟩

/-- The upper bits of `PC_next` are zero exactly where it is below `2^k` (R172). -/
theorem State.addr_ushiftRight_eq_zero {s : State} {v : Word} {k : Nat} :
    s.addr v >>> k = 0 ↔ v.toNat % 2 ^ s.AW < 2 ^ k := by
  rw [← BitVec.toNat_inj, BitVec.toNat_ushiftRight, State.addr, toNat_low, Nat.shiftRight_eq_div_pow]
  exact Nat.div_eq_zero_iff_lt (Nat.two_pow_pos k)

/-- `JumpTo` gives a target exactly where R172 does. -/
theorem checkJump_eq_none {mode : AddrMode} {s : State} : checkJump mode s = none ↔
    (targetWidth mode s < s.AW → s.pc.toNat % 2 ^ s.AW < 2 ^ targetWidth mode s)
      ∧ (∀ p, s.ctx.prefix2 = some p → p.le = .none ∨ p.le = .zero) ∧ s.ctx.um = false := by
  simp only [checkJump, Stop.or_eq_none, refuseIf_eq_none]
  refine and_congr ?upper (and_congr ?le Iff.rfl)
  case upper => simp [← State.addr_ushiftRight_eq_zero]
  case le =>
    cases s.ctx.prefix2 with
    | none => simp
    | some p => cases hle : p.le <;> simp [hle]

/-- Nothing stops a JMP exactly where it is ready (R172, D27). -/
theorem checkJmp_eq_none {l : Listed} {mode : AddrMode} {s : State} : checkJmp l mode s = none ↔ JumpReady l mode s := by
  simp only [checkJmp, Stop.or_eq_none, checkPrefixNoWidth_eq_none, checkLong_eq_none, checkJump_eq_none]
  exact ⟨fun ⟨accepted, long, upper, le, um⟩ => ⟨accepted, long, upper, le, um⟩,
    fun ⟨accepted, long, upper, le, um⟩ => ⟨accepted, long, upper, le, um⟩⟩

/-- Nothing stops a JSR exactly where it is ready and its return address is `AW` bits wide (R171, R172, D27). -/
theorem checkJsr_eq_none {l : Listed} {mode : AddrMode} {s : State} :
    checkJsr l mode s = none ↔ JumpReady l mode s ∧ ReturnReady s := by
  rw [← checkJmp_eq_none, ← checkReturn_eq_none]
  simp only [checkJsr, checkJmp, Stop.or_eq_none]
  tauto

/-- Where only `JumpTo` is left to refuse a jump that is not ready, it does (R172). -/
theorem complete_checkJump {l : Listed} {mode : AddrMode} {s : State} (hs : Accepted l s)
    (hlong : mode = .long → s.ctx.am = false) (hnot : ¬JumpReady l mode s) (t : State) :
    ∃ r, complete (checkJump mode s) t = .refused r
      ∧ (r = .jumpUpperBits ∨ r = .jumpLe ∨ r = .jumpUm ∧ s.ctx.um = true) := by
  cases hjump : checkJump mode s with
  | none =>
    obtain ⟨upper, le, um⟩ := checkJump_eq_none.mp hjump
    exact absurd ⟨hs, hlong, upper, le, um⟩ hnot
  | some st =>
    obtain ⟨r, rfl, hr⟩ := checkJump_eq_some hjump
    exact ⟨r, rfl, hr⟩

/-- The calls list no UM (R414), so that an accepted one has UM=0. -/
theorem jsrForms_um {f : Form} (hf : f ∈ jsrForms) : f.listed.um = false :=
  (by decide : ∀ l ∈ jsrForms.map Form.listed, l.um = false) _ (List.mem_map_of_mem hf)

/-- Settles O16: what is checked before the reason passes. -/
theorem jumpsRefused : Obligations.JumpsRefused := by
  intro op s
  refine ⟨?jmp, ?jsr, ?jsrReturn, ?bsrReturn, ?rtsReturn⟩
  case jmp =>
    intro f hf hs hlong hnot
    rw [exec_jmpForms op s f hf, jmpOp, checkJmp, complete_or_of_none (checkPrefixNoWidth_eq_none.mpr hs),
      complete_or_of_none (checkLong_eq_none.mpr hlong)]
    obtain ⟨r, hexec, hr⟩ := complete_checkJump hs hlong hnot (s.setPc (s.ea f.mode (f.mode.operandOf op)))
    exact ⟨r, hexec, hr.imp_right (.imp_right And.left)⟩
  case jsr =>
    intro f hf hs hlong hreturn hnot
    rw [exec_jsrForms op s f hf, jsrOp, checkJsr, complete_or_of_none (checkPrefixNoWidth_eq_none.mpr hs),
      complete_or_of_none (checkLong_eq_none.mpr hlong), complete_or_of_none (checkReturn_eq_none.mpr hreturn)]
    obtain ⟨r, hexec, hr⟩ :=
      complete_checkJump hs hlong hnot ((pushReturn s).setPc (s.ea f.mode (f.mode.operandOf op)))
    refine ⟨r, hexec, hr.imp_right fun h => h.resolve_right fun ⟨_, hum⟩ => ?_⟩
    exact absurd (hs.listed.um hum) (by simp [jsrForms_um hf])
  case jsrReturn =>
    intro f hf hs hlong hnot
    rw [exec_jsrForms op s f hf, jsrOp, checkJsr, complete_or_of_none (checkPrefixNoWidth_eq_none.mpr hs),
      complete_or_of_none (checkLong_eq_none.mpr hlong), complete_or_of_some (checkReturn_of_not_ready hnot)]
    rfl
  case bsrReturn =>
    intro f hf hs hnot
    rw [exec_bsrForms op s f hf, bsrOp, complete_or_of_none (checkPrefixNoWidth_eq_none.mpr hs),
      checkReturn_of_not_ready hnot]
    rfl
  case rtsReturn =>
    intro hs hnot
    change execRts s = _
    rw [execRts, complete_or_of_none (checkPrefixNoWidth_eq_none.mpr hs), checkReturn_of_not_ready hnot]
    rfl

end Sys2Proof.Machine
end

section
/-! SUPPORT. Addresses as numbers modulo `2^AW`, stack addresses modulo `2^W`, and the bits of an extension (R134 to R139, R152,
R170). -/

namespace Sys2Proof.Machine

/-! ### Addresses as numbers -/

theorem State.addr_eq_address (s : State) (v : Word) : s.addr v = s.address v.toNat := by
  rw [s.address_eq_addr, BitVec.ofNat_toNat, BitVec.setWidth_eq]

theorem State.addr_add (s : State) (a b : Word) : s.addr (a + b) = s.address (a.toNat + b.toNat) := by
  rw [s.address_eq_addr, BitVec.ofNat_add, BitVec.ofNat_toNat, BitVec.ofNat_toNat, BitVec.setWidth_eq, BitVec.setWidth_eq]

theorem State.addr_low_W (s : State) (v : Word) : s.addr (low s.W v) = s.address (value s.W v) := by
  rw [s.addr_eq_address, toNat_low, value]

theorem State.toNat_reg (s : State) (r : Reg) : (s.reg r).toNat = value s.W (s.cellOf r) := by
  rw [s.reg_eq, toNat_low, value]

/-- An address is fixed by the integer that it is modulo `2^AW`. -/
theorem State.addr_of_modEq (s : State) {v : Word} {x : Int} (h : (v.toNat : Int) ≡ x [ZMOD 2 ^ 64]) :
    s.addr v = s.address (x % (2 ^ s.AW : Nat)).toNat := by
  have hdvd : ((2 ^ s.AW : Nat) : Int) ∣ 2 ^ 64 := by exact_mod_cast Nat.pow_dvd_pow 2 s.AW_le
  have hmod : x % (2 ^ s.AW : Nat) = ((v.toNat % 2 ^ s.AW : Nat) : Int) := by
    rw [Int.natCast_mod]
    exact (h.of_dvd hdvd).symm
  rw [hmod, Int.toNat_natCast, s.addr_eq_address, State.address, State.address, Nat.mod_mod]

/-! ### The offset register -/

/-- Settles O19: each register is reduced to `AW` bits. -/
theorem offsetRegisterIsR134 : Obligations.OffsetRegisterIsR134 := by
  intro s
  refine ⟨fun hof => ?none, fun hof => ?sp, fun hof => ?br, fun hof hbase => ?first, fun hof hbase => ?opcode,
    fun hof hbase => ?next⟩
  case none => rw [State.offReg, hof]
  case sp => rw [State.offReg, hof, State.sp_eq, s.addr_low_W]
  case br => rw [State.offReg, hof, s.addr_low_W]
  case first => rw [State.offReg, hof, State.pcRel, hbase, s.addr_eq_address]
  case opcode => rw [State.offReg, hof, State.pcRel, hbase, s.addr_eq_address]
  case next => rw [State.offReg, hof, State.pcRel, hbase, s.addr_eq_address]

/-! ### Direct and indirect modes -/

/-- Operand, offset register and index register are added as numbers and reduced once (R135). -/
theorem directEA_eq_address (mode : AddrMode) (op : Word) (s : State) :
    directEA mode op s = s.address (op.toNat + s.offReg.toNat + (s.indexBefore mode).toNat) := by
  rw [directEA, s.address_eq_addr, BitVec.ofNat_add, BitVec.ofNat_add]
  simp only [BitVec.ofNat_toNat, BitVec.setWidth_eq]

/-- Settles O20: a direct mode's address is the reduced sum, and the mode says which register is its index. -/
theorem directAddressIsR135 : Obligations.DirectAddressIsR135 := by
  intro s op mode
  simp only [List.mem_cons, List.not_mem_nil, or_false]
  refine ⟨?plain, ?x, ?y⟩
  case plain => rintro (rfl | rfl | rfl) <;> exact directEA_eq_address _ op s
  case x =>
    change _ → _ = s.address (_ + value s.W (s.cellOf .x))
    rw [← s.toNat_reg]
    rintro (rfl | rfl) <;> exact directEA_eq_address _ op s
  case y =>
    change _ → _ = s.address (_ + value s.W (s.cellOf .y))
    rw [← s.toNat_reg]
    rintro (rfl | rfl) <;> exact directEA_eq_address _ op s

/-- The address of an indirect mode: the stored address, found where a direct mode would access, and the index register that the
mode adds afterwards (R136, R158). -/
theorem State.ea_indirect (s : State) {mode : AddrMode} (h : pointerSize mode false ≠ 0) (op : Word) :
    s.ea mode op = s.address
      ((s.memRead (s.envFor s.ctx.um) (s.address (op.toNat + s.offReg.toNat + (s.indexBefore mode).toNat))
        (pointerSize mode s.ctx.am)).toNat + (s.indexAfter mode).toNat) := by
  rw [← directEA_eq_address, ← s.addr_add]
  cases mode with
  | indZp | indZpX | indZpY | indAbs | indAbsX | indAbsY | quadZp | quadZpX | quadZpY | quadAbs | quadAbsX | quadAbsY => rfl
  | _ => exact absurd rfl h

/-- Settles O21: the twelve modes differ in the size of the stored address and in the index registers alone. -/
theorem indirectAddressIsR136 : Obligations.IndirectAddressIsR136 := by
  intro s op mode size at_ ptr
  have hx : value s.W s.x = (s.reg .x).toNat := (s.toNat_reg .x).symm
  have hy : value s.W s.y = (s.reg .y).toNat := (s.toNat_reg .y).symm
  simp only [List.mem_cons, List.not_mem_nil, or_false, hx, hy]
  refine ⟨?ind, ?indX, ?indY, ?quad, ?quadX, ?quadY⟩
  all_goals rintro (rfl | rfl) <;> exact s.ea_indirect (by decide) op

/-! ### Relative modes -/

theorem low_64 (v : Word) : low 64 v = v := low_eq_self.mpr v.isLt

/-- A signed number is the two's complement value of the low bits. -/
theorem signed_eq_toInt {k : Nat} (hk : 0 < k) (v : Word) : signed k v = (v.setWidth k).toInt := by
  rw [BitVec.toInt_eq_msb_cond, BitVec.msb_setWidth, decide_eq_true hk, Bool.true_and, BitVec.toNat_setWidth, signed, value]
  push_cast
  rfl

/-- Sign extension keeps the signed number, modulo `2^64` (R8). -/
theorem toNat_sext_modEq {k : Nat} (hpos : 0 < k) (hk : k ≤ 64) (v : Word) :
    ((sext k 64 v).toNat : Int) ≡ signed k v [ZMOD 2 ^ 64] := by
  rw [sext, low_64, signed_eq_toInt hpos, ← BitVec.toInt_signExtend_of_le hk, BitVec.toInt_eq_toNat_bmod]
  exact (Int.bmod_emod).symm

/-- A relative mode has an offset, whatever AM and RS are (R92). -/
theorem operandBytes_relative {mode : AddrMode} (h : mode ∈ [AddrMode.branch, .relByte, .relWide]) (am : Bool)
    (rs : OpSize) : 0 < mode.operandBytes am rs := by
  revert mode
  cases am <;> cases rs <;> decide

/-- A relative mode adds its signed offset to `PC_next` (R139). -/
theorem State.ea_relative (s : State) {mode : AddrMode} (h : mode ∈ [AddrMode.branch, .relByte, .relWide]) (op : Word) :
    s.ea mode op = s.address
      (((s.pc.toNat : Int) + signed (8 * mode.operandBytes s.ctx.am s.ctx.rs) op) % (2 ^ s.AW : Nat)).toNat := by
  have hpos := operandBytes_relative h s.ctx.am s.ctx.rs
  have hle := mode.operandBytes_le_eight s.ctx.am s.ctx.rs
  have hoffset : ((relOffset mode op s).toNat : Int) ≡ signed (8 * mode.operandBytes s.ctx.am s.ctx.rs) op [ZMOD 2 ^ 64] :=
    toNat_sext_modEq (by omega) (by omega) op
  have hea : s.ea mode op = s.addr (s.pc + relOffset mode op s) := by
    simp only [List.mem_cons, List.not_mem_nil, or_false] at h
    obtain rfl | rfl | rfl := h <;> rfl
  rw [hea]
  apply s.addr_of_modEq
  rw [BitVec.toNat_add]
  push_cast
  exact (Int.mod_modEq _ _).trans (hoffset.add_left _)

/-- Settles O22: E fits in `W` bits, and an offset is sign extended before it is added. -/
theorem eIndirectAndRelativeAddress : Obligations.EIndirectAndRelativeAddress :=
  fun s op => ⟨s.addr_low_W s.e, fun _ hmode => s.ea_relative hmode op⟩

/-! ### Stack addresses -/

theorem low_eq_ofNat_value {k : Nat} (v : Word) : low k v = BitVec.ofNat 64 (value k v) := by
  rw [value, ← toNat_low, BitVec.ofNat_toNat, BitVec.setWidth_eq]

/-- One above a push of `k` bytes, modulo `2^W` (R170). -/
theorem State.low_sp_sub_add_one (s : State) (um : Bool) {k : Nat} (hk : k ≤ 8) :
    low s.W (s.sp um - BitVec.ofNat 64 k + 1) = BitVec.ofNat 64 ((value s.W (s.spCell um) + 2 ^ s.W - k + 1) % 2 ^ s.W) := by
  have hsp : (s.sp um).toNat = value s.W (s.spCell um) := by rw [State.sp_eq, toNat_low, value]
  have hlt := value_lt s.W (s.spCell um)
  rw [low_eq_ofNat_value, value, BitVec.toNat_add, BitVec.toNat_sub, BitVec.toNat_ofNat, hsp]
  congr 1
  change ((2 ^ 64 - k % 2 ^ 64 + value s.W (s.spCell um)) % 2 ^ 64 + 1) % 2 ^ 64 % 2 ^ s.W = _
  obtain hw | hw | hw := s.W_cases <;> rw [hw] at hlt ⊢ <;> omega

/-- Settles O23: each discipline fixes one address for a push and one for a pull. -/
theorem stackAddressesAreR170 : Obligations.StackAddressesAreR170 := by
  intro s um k hk sp
  constructor
  · intro hfull
    rw [State.pushAddr, State.pullAddr, hfull]
    exact ⟨s.low_sp_sub um hk, by rw [State.sp_eq, low_eq_ofNat_value]⟩
  · intro hempty
    rw [State.pushAddr, State.pullAddr, hempty]
    exact ⟨s.low_sp_sub_add_one um hk, s.low_sp_add um 1⟩

/-! ### Extension -/

theorem State.W_le (s : State) : s.W ≤ 64 := by
  obtain hw | hw | hw := s.W_cases <;> omega

theorem State.w_pos (s : State) : 0 < s.w := by
  unfold State.w State.n
  cases s.ctx.rs <;> decide

/-- The bits of a sign extension: those of the value, and its top bit above (R8). -/
theorem getLsbD_sext {j k : Nat} (hj : 0 < j) (hk : k ≤ 64) (v : Word) (i : Nat) :
    (sext j k v).getLsbD i = (decide (i < k) && if i < j then v.getLsbD i else v.getLsbD (j - 1)) := by
  rw [sext, getLsbD_low, BitVec.getLsbD_signExtend, BitVec.msb_setWidth, decide_eq_true hj, Bool.true_and,
    BitVec.getLsbD_setWidth]
  by_cases hi : i < k
  · have hi64 : i < 64 := by omega
    by_cases hij : i < j <;> simp [hi64, hij]
  · simp [hi]

/-- The bits of an extension by ones (R8). -/
theorem getLsbD_oext {j k : Nat} (hk : k ≤ 64) (v : Word) (i : Nat) :
    (oext j k v).getLsbD i = (decide (i < k) && if i < j then v.getLsbD i else true) := by
  rw [oext, getLsbD_low, BitVec.getLsbD_or, BitVec.getLsbD_not, getLsbD_low, getLsbD_low, BitVec.getLsbD_allOnes]
  by_cases hi : i < k
  · have hi64 : i < 64 := by omega
    by_cases hij : i < j <;> simp [hi64, hij]
  · simp [hi]

/-- Settles O18: each value of LE has its own bits above `w`. -/
theorem extendIsR152 : Obligations.ExtendIsR152 := by
  intro s m j
  refine ⟨⟨rfl, getLsbD_low _ _ _⟩, ⟨rfl, getLsbD_sext s.w_pos s.W_le m j⟩, ⟨rfl, ?zero⟩, ⟨rfl, getLsbD_oext s.W_le m j⟩⟩
  case zero => rw [State.extend, getLsbD_low, getLsbD_low, Bool.and_assoc]

end Sys2Proof.Machine
end

section
/-! SUPPORT. What pulls and transfers leave in their register and in the flags (R152, R153, R160, R164, R165, R170, R354 to
R361, R363). -/

namespace Sys2Proof.Machine

/-! ### Flags -/

/-- With NF=0 the flags are replaced, with NF=1 nothing changes (R160). -/
theorem State.updateFlags_eq (s : State) (p : Flags) : s.updateFlags p = { s with p := s.flagsUnlessNf p } := by
  unfold State.updateFlags State.flagsUnlessNf
  split <;> rfl

theorem State.updateFlags_withCell (s : State) (r : Reg) (v : Word) (p : Flags) :
    (s.withCell r v).updateFlags p = ({ s with p := s.flagsUnlessNf p } : State).withCell r v := by
  rw [State.updateFlags_eq]
  cases r <;> rfl

theorem State.updateFlags_withSp (s : State) (um : Bool) (v : Word) (p : Flags) :
    (s.withSp um v).updateFlags p = (s.updateFlags p).withSp um v := by
  rw [State.updateFlags_eq, State.updateFlags_eq]
  unfold State.withSp
  split <;> rfl

/-- `SetNZ` looks at the low `k` bits as a number (R164). -/
theorem setNZ_eq_withNZ {k : Nat} (hk : 0 < k) (v : Word) (p : Flags) : setNZ k v p = p.withNZ k (value k v) := by
  have htop : topBit k v = (value k v).testBit (k - 1) := by
    rw [topBit, value, Nat.testBit_mod_two_pow, decide_eq_true (by omega : k - 1 < k), Bool.true_and, BitVec.testBit_toNat]
  have hzero : isZero k v = decide (value k v = 0) := by
    rw [isZero, beq_eq_decide, value, ← toNat_low]
    exact decide_eq_decide.mpr BitVec.toNat_inj.symm
  rw [setNZ, Flags.withNZ, htop, hzero]

/-! ### Loads -/

theorem low_low_of_le {j k : Nat} (h : j ≤ k) (v : Word) : low j (low k v) = low j v := by
  apply BitVec.eq_of_toNat_eq
  rw [toNat_low, toNat_low, toNat_low, Nat.mod_mod_of_dvd _ (Nat.pow_dvd_pow 2 h)]

/-- A load looks at the low `w` bits of its value alone (R165). -/
theorem State.loaded_low (s : State) (old m : Word) : s.loaded old (low s.w m) = s.loaded old m := by
  by_cases hle : s.leEff .zero = .none
  · rw [State.loaded_of_none hle, State.loaded_of_none hle, setLow, low_low_self, ← setLow]
  · rw [State.loaded_of_ne_none hle, State.loaded_of_ne_none hle, s.extend_low]

/-- A load puts its value in the low `w` bits and keeps the others, or extends it to the whole register (R165). -/
theorem State.loaded_spec {s : State} (hw : s.w ≤ s.W) (old m : Word) :
    let v := low s.W (s.loaded (low s.W old) m)
    if s.leEff .zero = .none then value s.w v = value s.w m ∧ KeepsAbove s s.w old v else v = s.extend (s.leEff .zero) m := by
  have habove := s.above_loaded old m
  split
  next hle => exact ⟨State.value_loaded hw _ m, by rwa [if_pos hle] at habove⟩
  next hle => rwa [if_neg hle] at habove

/-- A load of a register by its low `w` bits is a load of the field behind it (R150). -/
theorem State.loaded_low_low {s : State} (hw : s.w ≤ s.W) (old m : Word) :
    s.loaded old (low s.w (low s.W m)) = s.loaded old m := by
  rw [low_low_of_le hw, s.loaded_low]

/-! ### Pulls -/

/-- What a pull leaves: the register loaded, N and Z from the value pulled, the stack pointer moved up (R165, R170). -/
theorem pullNext_eq (r : Reg) (s : State) :
    let m := s.pulled s.ctx.um s.n
    pullNext r s = ((({ s with p := s.flagsUnlessNf (s.p.withNZ s.w (value s.w m)) } : State).withCell r
      (low s.W (s.loaded (low s.W (s.cellOf r)) m))).withSp s.ctx.um (s.spAfterPull s.ctx.um s.n)) := by
  intro m
  rw [pullNext, State.afterPull_eq, State.spAfterPull_setReg, State.setReg_eq, s.reg_eq, setNZ_eq_withNZ s.w_pos,
    State.updateFlags_withSp, State.updateFlags_withCell]

/-- Settles O34: the three pulls are one meaning, over the register. -/
theorem pullResult : Obligations.PullResult := by
  intro p hp s hs m
  have hexec : exec p.1 s = complete (checkPrefix .nfRsUmLe s) (pullNext p.2 s) := by
    revert p
    simp only [List.forall_mem_cons]
    exact ⟨rfl, rfl, rfl, List.forall_mem_nil _⟩
  rw [hexec, checkPrefix_eq_none.mpr hs, complete_none, pullNext_eq]
  exact ⟨_, rfl, State.loaded_spec hs.width _ m⟩

/-! ### Transfers -/

/-- A transfer of the `W` bits of a field loads the field's low `w` bits (R356). -/
theorem loadsInto_of_transfer {i : Instr} {r : Reg} {l : Listed} {src : Word} {s : State} (hs : AcceptedData l s)
    (hexec : exec i s = transferOp (low s.W src) r l s) : LoadsInto i r src s := by
  refine ⟨low s.W (s.loaded (low s.W (s.cellOf r)) src), ?next, State.loaded_spec hs.width _ src⟩
  rw [hexec, transferOp, checkPrefix_eq_none.mpr hs, complete_none, transferNext, State.loaded_low_low hs.width,
    low_low_of_le hs.width, setNZ_eq_withNZ s.w_pos, value_low, State.setReg_eq, s.reg_eq, State.updateFlags_withCell]

/-- Settles O36: five transfers load a register, and TXS loads a stack pointer. -/
theorem transferResult : Obligations.TransferResult := by
  intro s
  refine ⟨fun hs => ⟨?tax, ?tay, ?txa, ?tya⟩, fun hs => ?tsx, fun hs => ?txs⟩
  case tax | tay | txa | tya => exact loadsInto_of_transfer hs rfl
  case tsx =>
    have hsrc : s.sp s.ctx.um = low s.W (low s.W (s.spCell s.ctx.um)) := by rw [State.sp_eq, low_low_self]
    refine loadsInto_of_transfer hs ?_
    rw [← hsrc]
    rfl
  case txs =>
    refine ⟨low s.W (s.loaded (low s.W (s.spCell s.ctx.um)) s.x), ?next, State.loaded_spec hs.width _ _⟩
    change complete (checkPrefix .rsUmLe s) (s.setSp s.ctx.um (s.loaded (s.sp s.ctx.um) (low s.w (low s.W s.x)))) = _
    rw [checkPrefix_eq_none.mpr hs, complete_none, State.loaded_low_low hs.width, State.setSp_eq, State.sp_eq]

end Sys2Proof.Machine
end

section
/-! SUPPORT. Branches, jumps, calls and returns (R139, R171, R172, R411 to R442, R455, R461, R465, R483). -/

namespace Sys2Proof.Machine

/-! ### The effective address of a jump -/

/-- A form without operand bytes has an address that does not depend on an operand (R138). -/
theorem State.ea_operandOf (s : State) (mode : AddrMode) (op : Word) : s.ea mode (mode.operandOf op) = s.ea mode op := by
  cases mode <;> rfl

/-- An effective address is reduced modulo `2^AW` (R135, R136, R138, R139). -/
theorem State.addr_ea (s : State) (mode : AddrMode) (op : Word) : s.addr (s.ea mode op) = s.ea mode op := by
  cases mode with
  | implied | imm | trapCode => exact low_eq_self.mpr (Nat.two_pow_pos _)
  | _ => exact s.addr_addr _

theorem State.setPc_ea (s : State) (mode : AddrMode) (op : Word) :
    s.setPc (s.ea mode op) = { s with pc := s.ea mode op } := by
  rw [State.setPc, s.addr_ea]

/-! ### Branches and JMP -/

theorem exec_branchForms (op : Word) (s : State) :
    ∀ p ∈ branchForms, exec (p.1 op) s = branchOp (p.2 s.p) .onlyRs op s := List.map_inj_left.mp rfl

/-- Settles O40: a branch that is taken goes to its effective address. -/
theorem branchResult : Obligations.BranchResult := by
  intro p hp op s hs
  rw [exec_branchForms op s p hp, branchOp, checkPrefixNoWidth_eq_none.mpr hs, complete_none, branchNext]
  congr 1
  refine if_congr Iff.rfl ?_ rfl
  rw [s.setPc_ea, s.ea_relative (by simp)]
  rfl

/-- Settles O41: nothing stops a JMP that is ready. -/
theorem jmpResult : Obligations.JmpResult := by
  intro f hf op s hs
  rw [exec_jmpForms op s f hf, jmpOp, checkJmp_eq_none.mpr hs, complete_none, s.ea_operandOf, s.setPc_ea]

/-! ### Calls -/

theorem State.retBytes_le_eight (s : State) : s.retBytes ≤ 8 := by
  unfold State.retBytes
  split
  · cases s.opts.addrWidth <;> decide
  · exact s.n_le_eight

theorem State.AW_cases (s : State) :
    s.AW = 16 ∨ s.AW = 24 ∨ s.AW = 32 ∨ s.AW = 40 ∨ s.AW = 48 ∨ s.AW = 56 ∨ s.AW = 64 := by
  unfold State.AW
  cases s.opts.addrWidth <;> simp [AddrWidth.bits, AddrWidth.bytes]

/-- The address of the call's last byte, modulo `2^AW` (R171). -/
theorem State.addr_pc_sub_one (s : State) : s.addr (s.pc - 1) = s.address (value s.AW s.pc + 2 ^ s.AW - 1) := by
  have hsub : (s.pc - 1).toNat = (2 ^ 64 - 1 + s.pc.toNat) % 2 ^ 64 := BitVec.toNat_sub _ _
  rw [s.addr_eq_address, State.address, State.address, hsub, value]
  congr 1
  obtain h | h | h | h | h | h | h := s.AW_cases <;> rw [h] <;> omega

/-- The state a call leaves, field by field (R171, R172). -/
theorem calls_of_exec {i : Instr} {mode : AddrMode} {op : Word} {s : State} (hmem : s.mem.wf = true)
    (h : exec i s = .next ((pushReturn s).setPc (s.ea mode op))) : Calls i mode op s := by
  refine ⟨_, ?_, State.memWrite_stored hmem _ _ _ _⟩
  rw [h, pushReturn, s.addr_pc_sub_one, State.push_eq, s.low_sp_sub false s.retBytes_le_eight, State.setPc,
    State.addr_congr (s := s) (by unfold State.withSp; split <;> rfl), s.addr_ea]
  rfl

theorem exec_jsrForms_ready {f : Form} (hf : f ∈ jsrForms) (op : Word) {s : State} (hs : JumpReady f.listed f.mode s)
    (hreturn : ReturnReady s) : exec (f.make op) s = .next ((pushReturn s).setPc (s.ea f.mode op)) := by
  rw [exec_jsrForms op s f hf, jsrOp, checkJsr_eq_none.mpr ⟨hs, hreturn⟩, complete_none, s.ea_operandOf]

theorem exec_bsrForms_ready {f : Form} (hf : f ∈ bsrForms) (op : Word) {s : State} (hs : Accepted f.listed s)
    (hreturn : ReturnReady s) : exec (f.make op) s = .next ((pushReturn s).setPc (s.ea f.mode op)) := by
  rw [exec_bsrForms op s f hf, bsrOp, complete_or_of_none (checkPrefixNoWidth_eq_none.mpr hs),
    checkReturn_eq_none.mpr hreturn, complete_none, s.ea_operandOf]

/-- Settles O42: nothing stops a call that is ready, and every call pushes its return address alike. -/
theorem callResult : Obligations.CallResult := by
  intro op s hmem hreturn
  constructor
  · exact fun f hf hs => calls_of_exec hmem (exec_jsrForms_ready hf op hs hreturn)
  · exact fun f hf hs => calls_of_exec hmem (exec_bsrForms_ready hf op hs hreturn)

/-! ### RTS -/

theorem exec_rts_ready {s : State} (hs : Accepted .onlyRs s) (hreturn : ReturnReady s) :
    exec .rts s = .next (rtsNext s) := by
  change execRts s = _
  rw [execRts, complete_or_of_none (checkPrefixNoWidth_eq_none.mpr hs), checkReturn_eq_none.mpr hreturn, complete_none]

theorem rtsNext_pc (s : State) : (rtsNext s).pc = s.addr (s.pulled false s.retBytes + 1) :=
  State.addr_congr (State.afterPull_opts s false s.retBytes) _

/-- Settles O43: the address is the one pulled, plus one and reduced. -/
theorem rtsResult : Obligations.RtsResult := by
  intro s hs hreturn
  have hpc : (rtsNext s).pc = s.address ((s.memRead s.cur (s.pullAddr false) s.retBytes).toNat + 1) :=
    (rtsNext_pc s).trans (s.addr_add _ 1)
  rw [exec_rts_ready hs hreturn, ← hpc, ← s.afterPull_eq]
  rfl

/-! ### A call and RTS -/

/-- A call that completes had a return address of `AW` bits, and pushed it (R171). -/
theorem call_of_exec_eq_next {f : Form} (hf : f ∈ jsrForms ++ bsrForms) {op : Word} {s t : State}
    (h : exec (f.make op) s = .next t) : ReturnReady s ∧ t = (pushReturn s).setPc (s.ea f.mode (f.mode.operandOf op)) := by
  obtain hjsr | hbsr := List.mem_append.mp hf
  · rw [exec_jsrForms op s f hjsr] at h
    obtain ⟨hcheck, rfl⟩ := complete_eq_next.mp h
    exact ⟨(checkJsr_eq_none.mp hcheck).2, rfl⟩
  · rw [exec_bsrForms op s f hbsr] at h
    obtain ⟨hcheck, rfl⟩ := complete_eq_next.mp h
    exact ⟨checkReturn_eq_none.mp (Stop.or_eq_none.mp hcheck).2, rfl⟩

/-- The stack that a call leaves is that of a push of its return address. -/
theorem pushed_of_call {s : State} (hmem : s.mem.wf = true) (target : Word) :
    Pushed s false s.retBytes (s.addr (s.pc - 1)) ((pushReturn s).setPc target) := by
  have hpush := s.push_eq false s.retBytes (s.addr (s.pc - 1))
  rw [s.low_sp_sub false s.retBytes_le_eight] at hpush
  rw [pushReturn, hpush]
  exact ⟨State.fixedPart_withSp _ _ _, by simpa using State.memWrite_stored hmem _ _ _ _, State.spCell_withSp _ _ _⟩

theorem State.retBytes_congr {s t : State} (hopts : t.opts = s.opts) (hrs : t.ctx.rs = s.ctx.rs) :
    t.retBytes = s.retBytes := by
  simp [State.retBytes, State.n, hopts, hrs]

/-- RTS from the stack of a call goes back to the call's `PC_next` and brings the stack pointer back (R171, R423). -/
theorem rtsNext_of_pushed {s u : State} (hreturn : ReturnReady s) (hret : u.retBytes = s.retBytes)
    (h : Pushed s false s.retBytes (s.addr (s.pc - 1)) u)
    (hapart : Apart s s.cur (s.pushAddr false s.retBytes) s.retBytes) :
    (rtsNext u).pc = s.address s.pc.toNat ∧ value s.W ((rtsNext u).spCell false) = value s.W (s.spCell false) := by
  constructor
  · have hpulled : u.pulled false s.retBytes = s.addr (s.pc - 1) := by
      rw [h.pulled s.retBytes_le_eight hapart, hreturn]
      exact s.addr_addr _
    rw [rtsNext_pc, hret, hpulled, State.addr_congr h.opts, s.addr_addr_add, BitVec.sub_add_cancel, s.addr_eq_address]
  · have hsp : (rtsNext u).spCell false = u.spAfterPull false s.retBytes := by
      rw [rtsNext, hret, State.afterPull_eq]
      exact State.spCell_withSp u false _
    rw [hsp, h.spAfterPull s.retBytes_le_eight]

/-- Settles O56: what the call pushed is still there when RTS executes, and the two agree about RS. -/
theorem callThenReturn : Obligations.CallThenReturn := by
  intro f hf op s t hmem hcall hapart c pc start opcodeAt u hu hrs
  obtain ⟨hreturn, rfl⟩ := call_of_exec_eq_next hf hcall
  obtain ⟨hfixed, hstored, hsp⟩ := pushed_of_call hmem (s.ea f.mode (f.mode.operandOf op))
  have hpushed : Pushed s false s.retBytes (s.addr (s.pc - 1)) u := ⟨hfixed, hstored, hsp⟩
  have hret : u.retBytes = s.retBytes := State.retBytes_congr hpushed.opts hrs
  have hready : ReturnReady u := by
    rw [ReturnReady, hret, State.AW_congr hpushed.opts]
    exact hreturn
  exact ⟨rtsNext u, exec_rts_ready hu hready, rtsNext_of_pushed hreturn hret hpushed hapart⟩

end Sys2Proof.Machine
end

section
/-! SUPPORT. With NF=1 no instruction that completes writes a flag (R160, R162). -/

namespace Sys2Proof.Machine

/-- An instruction that completes with NF=1 lists NF (R162). -/
theorem FieldsListed.nf_ne_false {l : Listed} {s : State} (h : FieldsListed l s) (hnf : s.ctx.nf = true) :
    l.nf ≠ false := by
  rw [h.nf hnf]
  decide

/-- Flags that are written unless NF=1 stay with NF=1, whatever else has changed (R160). -/
theorem State.updateFlags_keeps_p {s u : State} (hnf : s.ctx.nf = true) (hctx : u.ctx = s.ctx) (hp : u.p = s.p)
    (p : Flags) : (u.updateFlags p).p = s.p := by
  rw [State.updateFlags_p, hctx, if_pos hnf, hp]

theorem p_of_complete {st : Option Stop} {s u t : State} (h : complete st u = .next t) (hu : u.p = s.p) : t.p = s.p :=
  of_complete (P := fun t => t.p = s.p) h hu

/-- Whatever an instruction means, with NF=1 it keeps the flags if it completes: it writes none, it writes them unless NF=1, or
it does not list NF and is refused. -/
theorem Meaning.keeps_flags {m : State → Outcome} (hm : Meaning m) {s t : State} (hnf : s.ctx.nf = true)
    (h : m s = .next t) : t.p = s.p := by
  cases hm with
  | prefix1 | prefix2 | extPage =>
    cases h
    rfl
  | refuse => cases h
  | brk | trp => exact absurd h (complete_raise_ne_next _ _ _ _)
  | logic | adc | sbc | load | rmwReg | transfer | tsx =>
    exact p_of_complete h (State.updateFlags_keeps_p hnf (State.setReg_ctx _ _ _) (State.setReg_p _ _ _) _)
  | bit => exact p_of_complete h (State.updateFlags_keeps_p hnf rfl rfl _)
  | rmw =>
    exact p_of_complete h
      (State.updateFlags_keeps_p hnf (State.memWrite_ctx _ _ _ _ _) (State.memWrite_p _ _ _ _ _) _)
  | pull => exact p_of_complete h (State.updateFlags_keeps_p hnf (by simp) (by simp) _)
  | bitAcc => exact p_of_complete h (by simp [bitAccNext, hnf])
  | lea => exact p_of_complete h (by simp [leaNext, hnf])
  | compare _ _ _ _ hlisted =>
    have hready := checkData_eq_none.mp (complete_eq_next.mp h).1
    exact absurd hlisted (hready.accepted.accepted.listed.nf_ne_false hnf)
  | plp | flag =>
    have hready := checkPrefixNoWidth_eq_none.mp (complete_eq_next.mp h).1
    exact absurd rfl (hready.listed.nf_ne_false hnf)
  | store | storeZero => exact p_of_complete h (State.memWrite_p _ _ _ _ _)
  | txs => exact p_of_complete h (State.setSp_p _ _ _)
  | push | php => exact p_of_complete h (State.push_p _ _ _ _)
  | branch =>
    refine p_of_complete h ?_
    unfold branchNext
    split <;> rfl
  | jmp => exact p_of_complete h rfl
  | jsr | bsr => exact p_of_complete h (State.push_p _ _ _ _)
  | rts => exact p_of_complete h (State.afterPull_p _ _ _)
  | nop => exact p_of_complete h rfl

/-- Settles O54, by the meanings of the instructions. -/
theorem nfKeepsFlags : Obligations.NfKeepsFlags :=
  fun i _ _ hnf h => (exec_meaning i).keeps_flags hnf h

end Sys2Proof.Machine
end

section
/-! SUPPORT. What ORA, AND and EOR leave in A and in the flags (R152, R154, R160, R164, R200 to R235, R450, R456, R460). -/

namespace Sys2Proof.Machine

/-! ### Data operands -/

/-- A form without operand bytes reads data that do not depend on an operand (R163). -/
theorem State.readOp_operandOf (s : State) (mode : AddrMode) (op : Word) :
    s.readOp mode (mode.operandOf op) = s.readOp mode op := by
  cases mode <;> rfl

/-- Nothing stops an instruction whose data operand is ready; a mode whose operand is dropped has no place in page zero
(R135, R136, R162). -/
theorem DataReady.checkData_operandOf {l : Listed} {mode : AddrMode} {op : Word} {s : State} (h : DataReady l mode op s) :
    checkData l mode (mode.operandOf op) s = none := by
  refine checkData_eq_none.mpr ⟨h.accepted, fun hmode => ?_⟩
  rw [operandOf_of_isZeroPage hmode]
  exact h.pageZero hmode

/-! ### Writing the low bits of a register -/

theorem State.W_pos (s : State) : 0 < s.W := by
  obtain hW | hW | hW := s.W_cases <;> omega

theorem State.opWidth_pos (s : State) (le : LoadExt) : 0 < s.opWidth le := by
  cases le with
  | none => exact s.w_pos
  | _ => exact s.W_pos

theorem State.opWidth_le {s : State} (hw : s.w ≤ s.W) (le : LoadExt) : s.opWidth le ≤ s.W := by
  cases le with
  | none => exact hw
  | _ => exact le_rfl

/-- The low bits of a register after `r[k-1:0] <- v` are those of `v` (R8). -/
theorem State.getLsbD_setLow_of_lt {s : State} {k : Nat} (hk : k ≤ s.W) (old v : Word) {j : Nat} (hj : j < k) :
    (low s.W (setLow k old v)).getLsbD j = v.getLsbD j := by
  rw [getLsbD_low, decide_eq_true (hj.trans_le hk), Bool.true_and, getLsbD_setLow, if_pos hj]

theorem State.value_setLow {s : State} {k : Nat} (hk : k ≤ s.W) (old v : Word) :
    value k (low s.W (setLow k old v)) = value k v :=
  value_congr fun _ hj => State.getLsbD_setLow_of_lt hk old v hj

theorem State.keepsAbove_setLow (s : State) (k : Nat) (old v : Word) :
    KeepsAbove s k old (low s.W (setLow k (low s.W old) v)) := by
  intro j hj
  rw [getLsbD_low, getLsbD_setLow, if_neg (Nat.not_lt.mpr hj), getLsbD_low, ← Bool.and_assoc, Bool.and_self]

/-! ### The operation -/

/-- What a logic operation leaves: A with its low `opw` bits replaced, N and Z of them (R154, R164). -/
theorem logicNext_eq {s : State} (hw : s.w ≤ s.W) (f : Word → Word → Word) (mode : AddrMode) (op : Word) :
    let le := s.leEff .none
    let k := s.opWidth le
    let v := low s.W (setLow k (low s.W s.a) (low k (f (low s.W s.a) (s.extend le (s.readOp mode op)))))
    logicNext f mode op s = { s with a := v, p := s.flagsUnlessNf (s.p.withNZ k (value k v)) } := by
  intro le k v
  have hk : k ≤ s.W := State.opWidth_le hw le
  rw [logicNext, setNZ_eq_withNZ (s.opWidth_pos le), State.setReg_eq, State.updateFlags_withCell,
    State.value_setLow hk]
  rfl

/-- Below `opw`, the result of a bitwise operation on A is that of its bits, since A has `W` of them (R200). -/
theorem State.getLsbD_logic {s : State} {f : Word → Word → Word} {g : Bool → Bool → Bool}
    (hbits : ∀ a b j, (f a b).getLsbD j = g (a.getLsbD j) (b.getLsbD j)) {k : Nat} (hk : k ≤ s.W) (a b : Word) {j : Nat}
    (hj : j < k) : (low k (f (low s.W a) b)).getLsbD j = g (a.getLsbD j) (b.getLsbD j) := by
  rw [getLsbD_low, decide_eq_true hj, Bool.true_and, hbits, getLsbD_low, decide_eq_true (hj.trans_le hk), Bool.true_and]

/-- Settles O25: each of the three instructions is one operation on words, which works bit by bit. -/
theorem logicResult : Obligations.LogicResult := by
  intro p hp form hform op s hs le k b
  obtain ⟨f, hbits, hexec⟩ : ∃ f : Word → Word → Word, (∀ a b j, (f a b).getLsbD j = p.1 (a.getLsbD j) (b.getLsbD j))
      ∧ exec (form.make op) s = logicOp f form.listed form.mode (form.mode.operandOf op) s := by
    revert p
    simp only [List.forall_mem_cons]
    exact ⟨fun h => ⟨_, fun _ _ _ => BitVec.getLsbD_or, exec_oraForms op s form h⟩,
      fun h => ⟨_, fun _ _ _ => BitVec.getLsbD_and, exec_andForms op s form h⟩,
      fun h => ⟨_, fun _ _ _ => BitVec.getLsbD_xor, exec_eorForms op s form h⟩, List.forall_mem_nil _⟩
  have hw : s.w ≤ s.W := hs.accepted.width
  have hk : k ≤ s.W := State.opWidth_le hw le
  rw [hexec, logicOp, hs.checkData_operandOf, complete_none, logicNext_eq hw, s.readOp_operandOf]
  refine ⟨_, rfl, fun j hj => ?_, s.keepsAbove_setLow k s.a _⟩
  rw [State.getLsbD_setLow_of_lt hk _ _ hj, State.getLsbD_logic hbits hk _ _ hj]

end Sys2Proof.Machine
end


section
/-! SUPPORT. What ADC and SBC leave in A and in the flags, and which flags CMP, CPX, CPY and BIT write (R152, R154, R160,
R164, R240 to R286, R464, R468, R479, R480, R484, R485). -/

namespace Sys2Proof.Machine

/-! ### A register's low bits -/

/-- Bits below `W` of a register are those of the field behind it (R21, R22). -/
theorem State.getLsbD_reg_of_lt (s : State) (r : Reg) {j : Nat} (hj : j < s.W) :
    (s.reg r).getLsbD j = (s.cellOf r).getLsbD j := by
  rw [s.reg_eq, getLsbD_low, decide_eq_true hj, Bool.true_and]

theorem State.value_reg {s : State} {k : Nat} (hk : k ≤ s.W) (r : Reg) : value k (s.reg r) = value k (s.cellOf r) :=
  value_congr fun _ hj => s.getLsbD_reg_of_lt r (hj.trans_le hk)

/-- The top bit as a bit of the number (R164). -/
theorem topBit_eq_testBit {k : Nat} (hk : 0 < k) (v : Word) : topBit k v = (value k v).testBit (k - 1) :=
  congrArg Flags.n (setNZ_eq_withNZ hk v State.reset.p)

/-- Zero as a number (R164). -/
theorem isZero_eq_decide {k : Nat} (hk : 0 < k) (v : Word) : isZero k v = decide (value k v = 0) :=
  congrArg Flags.z (setNZ_eq_withNZ hk v State.reset.p)

/-! ### ADC and SBC -/

/-- The flags of `a + b + C` at width `k`, given the result `r` (R244). -/
def Flags.afterSum (p : Flags) (k : Nat) (a b r : Word) : Flags :=
  { p.withNZ k (value k r) with
    c := decide (2 ^ k ≤ value k a + value k b + p.c.toNat)
    v := (topBit k a == topBit k b) && (topBit k r != topBit k a) }

theorem addFlags_eq_afterSum {k : Nat} (hk : 0 < k) (a b : Word) (p : Flags) :
    addFlags k a b p = p.afterSum k a b (sumResult k a b p.c) := by
  rw [addFlags, setNZ_eq_withNZ hk, sumCarry, exactSum_eq, Flags.afterSum]

/-- The flags depend on the low `k` bits of A and of the result alone. -/
theorem Flags.afterSum_congr {k : Nat} (hk : 0 < k) (p : Flags) {a a' r r' : Word} (b : Word) (ha : value k a = value k a')
    (hr : value k r = value k r') : p.afterSum k a b r = p.afterSum k a' b r' := by
  simp only [Flags.afterSum, topBit_eq_testBit hk, ha, hr]

/-- `NOT b` has the other top bit, so A agrees with it where A differs from `b`. -/
theorem topBit_beq_not {k : Nat} (hpos : 0 < k) (hk : k ≤ 64) (a b : Word) :
    (topBit k a == topBit k (~~~b)) = (topBit k a != topBit k b) := by
  have hnot : topBit k (~~~b) = !topBit k b := by
    rw [topBit, topBit, BitVec.getLsbD_not, decide_eq_true (by omega : k - 1 < 64), Bool.true_and]
  rw [hnot]
  cases topBit k a <;> cases topBit k b <;> rfl

/-- The overflow rule of SBC is that of ADC with `NOT b` (R273). -/
theorem subFlags_eq_addFlags_not {k : Nat} (hpos : 0 < k) (hk : k ≤ 64) (a b : Word) (p : Flags) :
    subFlags k a b p = addFlags k a (~~~b) p := by
  rw [subFlags, addFlags, topBit_beq_not hpos hk]

/-- `t` is `s` with `b` and C added to the low `k` bits of A, and the flags of the sum (R244). -/
def AddsToA (k : Nat) (b : Word) (s t : State) : Prop :=
  ∃ v, t = { s with a := v, p := s.flagsUnlessNf (s.p.afterSum k s.a b v) }
    ∧ value k v = (value k s.a + value k b + s.p.c.toNat) % 2 ^ k ∧ KeepsAbove s k s.a v

/-- Writing the sum to the low `k` bits of A adds to A, since A has at least `k` bits (R154, R244). -/
theorem addsToA_sumResult {s : State} {k : Nat} (hpos : 0 < k) (hk : k ≤ s.W) (b : Word) :
    AddsToA k b s ((s.setReg .a (setLow k (s.reg .a) (sumResult k (s.reg .a) b s.p.c))).updateFlags
      (addFlags k (s.reg .a) b s.p)) := by
  have hreg : value k (s.reg .a) = value k s.a := State.value_reg hk .a
  have hnew : value k (low s.W (setLow k (s.reg .a) (sumResult k (s.reg .a) b s.p.c)))
      = value k (sumResult k (s.reg .a) b s.p.c) := State.value_setLow hk _ _
  refine ⟨low s.W (setLow k (s.reg .a) (sumResult k (s.reg .a) b s.p.c)), ?_, ?_, s.keepsAbove_setLow k s.a _⟩
  · rw [State.setReg_eq, State.updateFlags_withCell, addFlags_eq_afterSum hpos,
      s.p.afterSum_congr hpos b hreg hnew.symm]
    rfl
  · exact hnew.trans (by rw [value_sumResult (hk.trans s.W_le), hreg])

theorem adcNext_addsToA {s : State} (hw : s.w ≤ s.W) (mode : AddrMode) (op : Word) :
    let le := s.leEff .none
    AddsToA (s.opWidth le) (s.extend le (s.readOp mode op)) s (adcNext mode op s) :=
  addsToA_sumResult (s.opWidth_pos _) (State.opWidth_le hw _) _

/-- SBC adds the complement of its operand (R273). -/
theorem sbcNext_addsToA {s : State} (hw : s.w ≤ s.W) (mode : AddrMode) (op : Word) :
    let le := s.leEff .none
    AddsToA (s.opWidth le) (~~~s.extend le (s.readOp mode op)) s (sbcNext mode op s) := by
  intro le
  have hpos : 0 < s.opWidth le := s.opWidth_pos le
  have hk : s.opWidth le ≤ s.W := State.opWidth_le hw le
  rw [sbcNext, subFlags_eq_addFlags_not hpos (hk.trans s.W_le)]
  exact addsToA_sumResult hpos hk _

/-- In binary mode nothing stops ADC or SBC whose operand is ready (R135, R136, R162, D15). -/
theorem DataReady.checkArith_operandOf {l : Listed} {mode : AddrMode} {op : Word} {s : State} (h : DataReady l mode op s)
    (hd : s.p.d = false) : checkArith l mode (mode.operandOf op) s = none := by
  rw [checkArith_binary hd, h.checkData_operandOf]

/-- Settles O26: ADC adds its operand and C to A. -/
theorem adcResult : Obligations.AdcResult := by
  intro f hf op s hs hd le k b sum top
  obtain ⟨v, hnext, hsum, habove⟩ := adcNext_addsToA hs.accepted.width f.mode op
  rw [exec_adcForms op s f hf, adcOp, hs.checkArith_operandOf hd, complete_none]
  refine ⟨v, congrArg Host.Outcome.next ?_, hsum, habove⟩
  rw [adcNext, s.readOp_operandOf]
  exact hnext

/-- Settles O27: SBC adds the complement of its operand and C to A. -/
theorem sbcResult : Obligations.SbcResult := by
  intro f hf op s hs hd le k b sum top
  have hk : k ≤ 64 := (State.opWidth_le hs.accepted.width le).trans s.W_le
  obtain ⟨v, hnext, hsum, habove⟩ := sbcNext_addsToA hs.accepted.width f.mode op
  rw [value_not hk] at hsum
  rw [Flags.afterSum, value_not hk, topBit_beq_not (s.opWidth_pos le) hk] at hnext
  rw [exec_sbcForms op s f hf, sbcOp, hs.checkArith_operandOf hd, complete_none]
  refine ⟨v, congrArg Host.Outcome.next ?_, hsum, habove⟩
  rw [sbcNext, s.readOp_operandOf]
  exact hnext

/-! ### CMP, CPX and CPY -/

/-- The difference at width `k` is the exact difference modulo `2^k` (R257). -/
theorem value_sub {k : Nat} (hk : k ≤ 64) (a b : Word) :
    value k (a - b) = (value k a + 2 ^ k - value k b) % 2 ^ k := by
  have hwidth : (a - b).setWidth k = a.setWidth k - b.setWidth k := by
    rw [BitVec.sub_eq_add_neg, BitVec.setWidth_add _ _ hk, BitVec.setWidth_neg_of_le hk, ← BitVec.sub_eq_add_neg]
  rw [value, ← BitVec.toNat_setWidth, hwidth, BitVec.toNat_sub, BitVec.toNat_setWidth, BitVec.toNat_setWidth, ← value,
    ← value, ← Nat.sub_add_comm (value_lt k b).le, Nat.add_comm]

/-- The flags of a compare of two numbers below `2^k` (R257). -/
def Flags.afterCompare (p : Flags) (k a b : Nat) : Flags :=
  { p with n := ((a + 2 ^ k - b) % 2 ^ k).testBit (k - 1), z := decide (a = b), c := decide (b ≤ a) }

theorem compareFlags_eq_afterCompare {k : Nat} (hpos : 0 < k) (hk : k ≤ 64) (a b : Word) (p : Flags) :
    compareFlags k a b p = p.afterCompare k (value k a) (value k b) := by
  have htop : topBit k (low k (low k a - low k b))
      = ((value k a + 2 ^ k - value k b) % 2 ^ k).testBit (k - 1) := by
    rw [topBit_eq_testBit hpos, value_low, value_sub hk, value_low, value_low]
  have heq : (low k a == low k b) = decide (value k a = value k b) := by
    rw [beq_eq_decide, value, value, ← toNat_low, ← toNat_low]
    exact decide_eq_decide.mpr BitVec.toNat_inj.symm
  rw [compareFlags, htop, heq, toNat_low, toNat_low, Flags.afterCompare, value, value]

/-- Settles O28: each of the three compares one register. -/
theorem compareResult : Obligations.CompareResult := by
  intro p hp f hf op s hs le k a b
  have hexec : exec (f.make op) s = compareOp p.1 f.listed f.mode (f.mode.operandOf op) s := by
    revert p
    simp only [List.forall_mem_cons]
    exact ⟨exec_cmpForms op s f, exec_cpxForms op s f, exec_cpyForms op s f, List.forall_mem_nil _⟩
  have hk : k ≤ s.W := State.opWidth_le hs.accepted.width le
  rw [hexec, compareOp, hs.checkData_operandOf, complete_none, compareNext, s.readOp_operandOf,
    compareFlags_eq_afterCompare (s.opWidth_pos le) (hk.trans s.W_le), State.value_reg hk]
  rfl

/-! ### BIT -/

/-- A AND the operand at width `k` looks at the low `k` bits of the register alone (R240). -/
theorem State.value_reg_and {s : State} {k : Nat} (hk : k ≤ s.W) (b : Word) :
    value k (s.reg .a &&& b) = value k (s.a &&& b) :=
  value_congr fun j hj => by
    rw [BitVec.getLsbD_and, BitVec.getLsbD_and, s.getLsbD_reg_of_lt .a (hj.trans_le hk), State.cellOf]

theorem State.isZero_reg_and {s : State} {k : Nat} (hpos : 0 < k) (hk : k ≤ s.W) (b : Word) :
    isZero k (s.reg .a &&& b) = decide (value k (s.a &&& b) = 0) := by
  rw [isZero_eq_decide hpos, State.value_reg_and hk]

/-- A BIT instruction with a ready operand writes the flags of A and the operand, unless NF=1 (R160, R240, R256). -/
theorem bitOp_eq_next {l : Listed} {mode : AddrMode} {op : Word} {s : State} (hs : DataReady l mode op s)
    (flags : Nat → Word → Word → Flags → Flags) :
    let le := s.leEff .none
    bitOp flags l mode (mode.operandOf op) s = .next { s with
      p := s.flagsUnlessNf (flags (s.opWidth le) (s.reg .a) (s.extend le (s.readOp mode op)) s.p) } := by
  intro le
  rw [bitOp, hs.checkData_operandOf, complete_none, bitNext, s.readOp_operandOf, State.updateFlags_eq]

/-- Settles O29: both shapes write the flags of A and the operand, and differ in which. -/
theorem bitResult : Obligations.BitResult := by
  constructor
  case left =>
    intro f hf op s hs le k b
    have hk : k ≤ s.W := State.opWidth_le hs.accepted.width le
    rw [exec_bitForms op s f hf, bitOp_eq_next hs, bitFlags, State.isZero_reg_and (s.opWidth_pos le) hk]
    rfl
  case right =>
    intro op s hs le k b
    have hk : k ≤ s.W := State.opWidth_le hs.accepted.width le
    have hexec : exec (.bitImm op) s = bitOp bitImmFlags .nfRsLe .imm (AddrMode.imm.operandOf op) s := rfl
    rw [hexec, bitOp_eq_next hs, bitImmFlags, State.isZero_reg_and (s.opWidth_pos le) hk]
    rfl

end Sys2Proof.Machine
end

section
/-! SUPPORT. What loads leave in their register and in the flags, and what stores leave in memory (R52, R153, R155, R156, R163,
R165, R290 to R342, R469 to R478). -/

namespace Sys2Proof.Machine

/-! ### Loads -/

/-- What a load leaves: the register loaded with the operand, N and Z from the operand (R165). -/
theorem loadNext_eq (r : Reg) (mode : AddrMode) (op : Word) (s : State) :
    let m := s.readOp mode op
    loadNext r mode op s = ({ s with p := s.flagsUnlessNf (s.p.withNZ s.w (value s.w m)) } : State).withCell r
      (low s.W (s.loaded (low s.W (s.cellOf r)) m)) := by
  intro m
  rw [loadNext, State.setReg_eq, s.reg_eq, setNZ_eq_withNZ s.w_pos, State.updateFlags_withCell]

/-- Settles O31: each of the three instructions loads one register. -/
theorem loadResult : Obligations.LoadResult := by
  intro p hp f hf op s hs
  have hexec : exec (f.make op) s = loadOp p.1 f.listed f.mode (f.mode.operandOf op) s := by
    revert p
    simp only [List.forall_mem_cons]
    exact ⟨exec_ldaForms op s f, exec_ldxForms op s f, exec_ldyForms op s f, List.forall_mem_nil _⟩
  rw [LoadsInto, hexec, loadOp, hs.checkData_operandOf, complete_none, loadNext_eq, s.readOp_operandOf]
  exact ⟨_, rfl, State.loaded_spec hs.accepted.width _ _⟩

/-! ### Stores -/

/-- A store with a ready operand completes and changes memory alone. Its `n` bytes lie below bit `W` (R151), so storing a
field's `W` bits stores the field (R52, R156). -/
theorem storeOp_stored {l : Listed} {mode : AddrMode} {op : Word} {s : State} (hmem : s.mem.wf = true)
    (hs : DataReady l mode op s) (v : Word) :
    ∃ m, storeOp (low s.W v) l mode (mode.operandOf op) s = .next { s with mem := m }
      ∧ Stored s (s.envFor s.ctx.um) (s.ea mode op) s.n v m := by
  rw [storeOp, hs.checkData_operandOf, complete_none, storeNext, s.ea_operandOf, State.memWrite_eq]
  exact ⟨_, rfl, (State.memWrite_stored hmem _ _ _ _).of_low hs.accepted.width⟩

/-- Settles O32: STA, STX and STY store the `W` bits of their register's field, and the zero of STZ is its own `W` bits. -/
theorem storeResult : Obligations.StoreResult := by
  intro p hp f hf op s hmem hs
  have hexec : exec (f.make op) s = storeOp (low s.W (p.1 s)) f.listed f.mode (f.mode.operandOf op) s := by
    have hzero : low s.W 0 = 0 := low_eq_self.mpr (Nat.two_pow_pos _)
    revert p
    simp only [List.forall_mem_cons, hzero]
    exact ⟨exec_staForms op s f, exec_stxForms op s f, exec_styForms op s f, exec_stzForms op s f, List.forall_mem_nil _⟩
  rw [hexec]
  exact storeOp_stored hmem hs (p.1 s)

end Sys2Proof.Machine
end

section
/-! SUPPORT. What the shifts, rotates, increments, decrements, TSB and TRB leave in memory or in a register, and in the flags
(R52, R156, R160, R164, R370 to R407, R451 to R487). -/

namespace Sys2Proof.Machine

/-! ### Words and numbers below `2^k` -/

theorem value_ofNat {k : Nat} (hk : k ≤ 64) (x : Nat) : value k (BitVec.ofNat 64 x) = x % 2 ^ k := by
  rw [value, BitVec.toNat_ofNat, Nat.mod_mod_of_dvd _ (Nat.pow_dvd_pow 2 hk)]

theorem value_ofNat_value {k : Nat} (hk : k ≤ 64) (v : Word) : value k (BitVec.ofNat 64 (value k v)) = value k v := by
  rw [value_ofNat hk, Nat.mod_eq_of_lt (value_lt k v)]

theorem toNat_ofNat_bit (c : Bool) : (BitVec.ofNat 64 c.toNat).toNat = c.toNat := by cases c <;> rfl

/-- A shift to the left with a bit put in below doubles the word and adds the bit: the sum has no carry into bit 0. -/
theorem shiftLeft_or_bit (m : Word) (c : Bool) :
    m <<< 1 ||| BitVec.ofNat 64 c.toNat = BitVec.ofNat 64 (2 * m.toNat + c.toNat) := by
  apply BitVec.eq_of_toNat_eq
  have hshift : (m <<< 1).toNat = 2 ^ 1 * (m.toNat % 2 ^ 63) := by
    rw [BitVec.toNat_shiftLeft, Nat.shiftLeft_eq]
    omega
  have hc : c.toNat < 2 ^ 1 := c.toNat_lt
  rw [BitVec.toNat_or, hshift, toNat_ofNat_bit, ← Nat.two_pow_add_eq_or_of_lt hc, BitVec.toNat_ofNat]
  omega

theorem value_shiftLeft_or_bit {k : Nat} (hk : k ≤ 64) (m : Word) (c : Bool) :
    value k (m <<< 1 ||| BitVec.ofNat 64 c.toNat) = (2 * value k m + c.toNat) % 2 ^ k := by
  rw [shiftLeft_or_bit, value_ofNat hk, value, Nat.add_mod, ← Nat.mul_mod_mod, ← Nat.add_mod]

theorem value_shiftLeft {k : Nat} (hk : k ≤ 64) (m : Word) : value k (m <<< 1) = 2 * value k m % 2 ^ k := by
  simpa using value_shiftLeft_or_bit hk m false

/-- A shift to the right with a bit put in at `k-1` halves the number and adds the bit's weight (R391). -/
theorem value_bit_or_shiftRight {k : Nat} (hpos : 0 < k) (hk : k ≤ 64) (m : Word) (c : Bool) :
    value k (BitVec.ofNat 64 c.toNat <<< (k - 1) ||| low k m >>> 1) = c.toNat * 2 ^ (k - 1) + value k m / 2 := by
  have hdouble : 2 ^ k = 2 * 2 ^ (k - 1) := two_pow_eq_double hpos
  have hwide : 2 ^ k ≤ 2 ^ 64 := Nat.pow_le_pow_right (by decide) hk
  have hm : value k m < 2 ^ k := value_lt k m
  have hc : 2 ^ (k - 1) * c.toNat ≤ 2 ^ (k - 1) := mul_le_of_le_one_right (Nat.zero_le _) (Nat.le_of_lt_succ c.toNat_lt)
  have hhigh : (BitVec.ofNat 64 c.toNat <<< (k - 1)).toNat = 2 ^ (k - 1) * c.toNat := by
    rw [BitVec.toNat_shiftLeft, toNat_ofNat_bit, Nat.shiftLeft_eq, Nat.mul_comm, Nat.mod_eq_of_lt (by omega)]
  have hlow : (low k m >>> 1).toNat = value k m / 2 := by
    rw [BitVec.toNat_ushiftRight, toNat_low, Nat.shiftRight_eq_div_pow, value, Nat.pow_one]
  rw [value, BitVec.toNat_or, hhigh, hlow, ← Nat.two_pow_add_eq_or_of_lt (by omega), Nat.mod_eq_of_lt (by omega),
    Nat.mul_comm]

theorem value_shiftRight {k : Nat} (hpos : 0 < k) (hk : k ≤ 64) (m : Word) :
    value k (low k m >>> 1) = value k m / 2 := by
  simpa using value_bit_or_shiftRight hpos hk m false

theorem value_add_one {k : Nat} (hk : k ≤ 64) (m : Word) : value k (m + 1) = (value k m + 1) % 2 ^ k := by
  have hsum : m + 1 = BitVec.ofNat 64 (m.toNat + 1) := by
    rw [BitVec.ofNat_add, BitVec.ofNat_toNat, BitVec.setWidth_eq]
    rfl
  rw [hsum, value_ofNat hk, value, Nat.mod_add_mod]

theorem value_sub_one {k : Nat} (hpos : 0 < k) (hk : k ≤ 64) (m : Word) :
    value k (m - 1) = (value k m + 2 ^ k - 1) % 2 ^ k := by
  have hone : value k 1 = 1 := Nat.mod_eq_of_lt (Nat.one_lt_two_pow hpos.ne')
  rw [value_sub hk, hone]

/-- The bit that a shift to the left drops says whether the double fits (R371). -/
theorem topBit_eq_decide_double {k : Nat} (hpos : 0 < k) (m : Word) :
    topBit k m = decide (2 ^ k ≤ 2 * value k m) := by
  rw [topBit_eq_decide hpos, two_pow_eq_double hpos]
  exact decide_eq_decide.mpr (by omega)

/-- The bit that a shift to the right drops says whether the number is odd (R386). -/
theorem getLsbD_zero_eq_decide_odd {k : Nat} (hpos : 0 < k) (m : Word) :
    m.getLsbD 0 = decide (value k m % 2 = 1) := by
  rw [BitVec.getLsbD, Nat.testBit_zero, value, Nat.mod_mod_of_dvd _ (dvd_pow_self 2 hpos.ne')]

/-! ### The operations and their arithmetic -/

/-- At every width, `f` leaves in the low bits of a word, and in the flags, what the arithmetic of `g` says of the numbers
there. -/
structure Rmw.Implements (f : Rmw) (g : RmwSpec) : Prop where
  result : ∀ k, 0 < k → k ≤ 64 → ∀ a p m, value k (f k a p m).1 = (g k (value k a) p.c (value k m)).1
  flags : ∀ k, 0 < k → k ≤ 64 → ∀ a p m, (f k a p m).2 = p.afterRmw k (g k (value k a) p.c (value k m))

/-- An operation implements its arithmetic if its result does, its flags are N and Z of the result, and its carry is the
arithmetic's; an operation without a carry leaves C alone. -/
theorem Rmw.Implements.of_result {f : Rmw} {g : RmwSpec}
    (result : ∀ k, 0 < k → k ≤ 64 → ∀ a p m, value k (f k a p m).1 = (g k (value k a) p.c (value k m)).1)
    (flags : ∀ k, 0 < k → ∀ a p m, (f k a p m).2
      = { setNZ k (f k a p m).1 p with c := (g k (value k a) p.c (value k m)).2.getD p.c }) : f.Implements g where
  result := result
  flags k hpos hk a p m := by
    rw [flags k hpos, setNZ_eq_withNZ hpos, result k hpos hk, Flags.afterRmw]

theorem rmwAsl_implements : Rmw.Implements rmwAsl specAsl := by
  refine .of_result (fun k _ hk a p m => ?result) fun k hpos a p m => ?flags
  case result => exact (value_low _ _).trans (value_shiftLeft hk m)
  case flags => rw [rmwAsl, specAsl, topBit_eq_decide_double hpos, Option.getD_some]

theorem rmwLsr_implements : Rmw.Implements rmwLsr specLsr := by
  refine .of_result (fun k hpos hk a p m => ?result) fun k hpos a p m => ?flags
  case result => exact value_shiftRight hpos hk m
  case flags => rw [rmwLsr, specLsr, getLsbD_zero_eq_decide_odd hpos, Option.getD_some]

theorem rmwRol_implements : Rmw.Implements rmwRol specRol := by
  refine .of_result (fun k _ hk a p m => ?result) fun k hpos a p m => ?flags
  case result => exact (value_low _ _).trans (value_shiftLeft_or_bit hk m p.c)
  case flags => rw [rmwRol, specRol, topBit_eq_decide_double hpos, Option.getD_some]

theorem rmwRor_implements : Rmw.Implements rmwRor specRor := by
  refine .of_result (fun k hpos hk a p m => ?result) fun k hpos a p m => ?flags
  case result => exact (value_low _ _).trans (value_bit_or_shiftRight hpos hk m p.c)
  case flags => rw [rmwRor, specRor, getLsbD_zero_eq_decide_odd hpos, Option.getD_some]

theorem rmwInc_implements : Rmw.Implements rmwInc specInc :=
  .of_result (fun _ _ hk _ _ m => (value_low _ _).trans (value_add_one hk m)) fun _ _ _ _ _ => rfl

theorem rmwDec_implements : Rmw.Implements rmwDec specDec :=
  .of_result (fun _ hpos hk _ _ m => (value_low _ _).trans (value_sub_one hpos hk m)) fun _ _ _ _ _ => rfl

/-- In a state whose registers have at least `w` bits, the arithmetic is that of the state's own A and C (R151). -/
theorem Rmw.Implements.at_state {f : Rmw} {g : RmwSpec} (hfg : f.Implements g) {s : State} (hw : s.w ≤ s.W) (m : Word) :
    let q := g s.w (value s.w s.a) s.p.c (value s.w m)
    value s.w (f s.w (s.reg .a) s.p m).1 = q.1 ∧ (f s.w (s.reg .a) s.p m).2 = s.p.afterRmw s.w q := by
  have hk : s.w ≤ 64 := hw.trans s.W_le
  have ha : value s.w (s.reg .a) = value s.w s.a := State.value_reg hw .a
  rw [← ha]
  exact ⟨hfg.result s.w s.w_pos hk _ _ _, hfg.flags s.w s.w_pos hk _ _ _⟩

/-! ### On memory -/

/-- Two values that agree in their low bits leave the same bytes behind (R52). -/
theorem Stored.of_value_eq {s : State} {env : Mode} {a : Word} {n k : Nat} {v v' : Word} {m : Memory}
    (h : Stored s env a n v m) (hk : 8 * n ≤ k) (hv : value k v = value k v') : Stored s env a n v' m where
  others := h.others
  bytes i hi hlater := by
    have hlow : low k v = low k v' := BitVec.eq_of_toNat_eq (by rw [toNat_low, toNat_low]; exact hv)
    have hbyte : 8 * i + 8 ≤ k := by omega
    rw [h.bytes i hi hlater, ← byte_low hbyte, hlow, byte_low hbyte]

/-- The operand of a read-modify-write is a number below `2^w` (R52, R150). -/
theorem State.value_memRead (s : State) (env : Mode) (a : Word) :
    value s.w (s.memRead env a s.n) = (s.memRead env a s.n).toNat :=
  Nat.mod_eq_of_lt (s.toNat_memRead_lt env a s.n_le_eight)

/-- A read-modify-write of memory with a ready operand completes: the result goes to the address it was read from, the flags
change unless NF=1, and nothing else does (R160, R370, R371). -/
theorem rmwOp_stored {l : Listed} {mode : AddrMode} {op : Word} {s : State} (hmem : s.mem.wf = true)
    (hs : DataReady l mode op s) (f : Rmw) :
    let env := s.envFor s.ctx.um
    let a := s.ea mode op
    let q := f s.w (s.reg .a) s.p (s.memRead env a s.n)
    ∃ m, rmwOp f l mode (mode.operandOf op) s = .next { s with mem := m, p := s.flagsUnlessNf q.2 }
      ∧ Stored s env a s.n q.1 m := by
  intro env a q
  rw [rmwOp, hs.checkData_operandOf, complete_none, rmwNext, s.ea_operandOf, State.memWrite_eq, State.updateFlags_eq]
  exact ⟨_, rfl, State.memWrite_stored hmem _ _ _ _⟩

/-- An operation that implements its arithmetic modifies memory by it (R371). -/
theorem modifiesMemory_of_implements {i : Instr} {l : Listed} {mode : AddrMode} {op : Word} {s : State} {f : Rmw}
    {g : RmwSpec} (hfg : f.Implements g) (hexec : exec i s = rmwOp f l mode (mode.operandOf op) s)
    (hmem : s.mem.wf = true) (hs : DataReady l mode op s) : ModifiesMemory i mode op g s := by
  have hw : s.w ≤ s.W := hs.accepted.width
  obtain ⟨m, hnext, hstored⟩ := rmwOp_stored hmem hs f
  obtain ⟨hresult, hflags⟩ := hfg.at_state hw (s.memRead (s.envFor s.ctx.um) (s.ea mode op) s.n)
  rw [State.value_memRead] at hresult hflags
  refine ⟨m, ?next, hstored.of_value_eq (k := s.w) le_rfl ?value⟩
  case next => rw [hexec, hnext, hflags]
  case value => rw [← hresult, value_ofNat_value (hw.trans s.W_le)]

/-- Settles O37: the forms of each instruction run one operation, which implements the instruction's arithmetic. -/
theorem shiftAndCountMemory : Obligations.ShiftAndCountMemory := by
  intro p hp form hform op s hmem hs
  obtain ⟨f, hfg, hexec⟩ : ∃ f : Rmw, f.Implements p.1
      ∧ exec (form.make op) s = rmwOp f form.listed form.mode (form.mode.operandOf op) s := by
    revert p
    simp only [List.forall_mem_cons]
    exact ⟨fun h => ⟨_, rmwAsl_implements, exec_aslForms op s form h⟩,
      fun h => ⟨_, rmwLsr_implements, exec_lsrForms op s form h⟩,
      fun h => ⟨_, rmwRol_implements, exec_rolForms op s form h⟩,
      fun h => ⟨_, rmwRor_implements, exec_rorForms op s form h⟩,
      fun h => ⟨_, rmwInc_implements, exec_incForms op s form h⟩,
      fun h => ⟨_, rmwDec_implements, exec_decForms op s form h⟩, List.forall_mem_nil _⟩
  exact modifiesMemory_of_implements hfg hexec hmem hs

/-! ### TSB and TRB -/

/-- Settles O38: both operations write a bitwise function of memory and A, and take Z from memory AND A. Of A they see the
low `w` bits alone. -/
theorem testAndSetMemory : Obligations.TestAndSetMemory := by
  intro p hp form hform op s hmem hs env m
  obtain ⟨f, hf, hbits, hexec⟩ : ∃ f : Rmw,
      (∀ k a q m, f k a q m = (low k (p.1 m a), { q with z := isZero k (m &&& a) }))
      ∧ (∀ m a b j, a.getLsbD j = b.getLsbD j → (p.1 m a).getLsbD j = (p.1 m b).getLsbD j)
      ∧ exec (form.make op) s = rmwOp f form.listed form.mode (form.mode.operandOf op) s := by
    revert p
    simp only [List.forall_mem_cons]
    exact ⟨fun h => ⟨rmwTsb, fun _ _ _ _ => rfl, fun m a b j hj => by rw [BitVec.getLsbD_or, hj, ← BitVec.getLsbD_or],
        exec_tsbForms op s form h⟩,
      fun h => ⟨rmwTrb, fun _ _ _ _ => rfl,
        fun m a b j hj => by simp only [BitVec.getLsbD_and, BitVec.getLsbD_not, hj], exec_trbForms op s form h⟩,
      List.forall_mem_nil _⟩
  have hw : s.w ≤ s.W := hs.accepted.width
  obtain ⟨mem, hnext, hstored⟩ := rmwOp_stored hmem hs f
  rw [hf] at hnext hstored
  refine ⟨mem, ?next, hstored.of_value_eq (k := s.w) le_rfl ?value⟩
  case next =>
    rw [hexec, hnext, BitVec.and_comm, State.isZero_reg_and s.w_pos hw, BitVec.and_comm]
  case value =>
    exact (value_low _ _).trans <| value_congr fun j hj => hbits _ _ _ j (s.getLsbD_reg_of_lt .a (hj.trans_le hw))

/-! ### On a register -/

/-- An operation that implements its arithmetic modifies the low `w` bits of a register by it (R372). -/
theorem modifiesRegister_of_implements {i : Instr} {r : Reg} {l : Listed} {s : State} {f : Rmw} {g : RmwSpec}
    (hfg : f.Implements g) (hexec : exec i s = rmwRegOp f r l s) (hs : AcceptedData l s) : ModifiesRegister i r g s := by
  have hw : s.w ≤ s.W := hs.width
  obtain ⟨hresult, hflags⟩ := hfg.at_state hw (low s.w (s.reg r))
  rw [value_low, State.value_reg hw] at hresult hflags
  refine ⟨low s.W (setLow s.w (s.reg r) (f s.w (s.reg .a) s.p (low s.w (s.reg r))).1), ?next, ?value, ?above⟩
  case next =>
    rw [hexec, rmwRegOp, checkPrefix_eq_none.mpr hs, complete_none, rmwRegNext, State.setReg_eq,
      State.updateFlags_withCell, hflags]
  case value => rw [State.value_setLow hw, hresult]
  case above =>
    rw [s.reg_eq r]
    exact s.keepsAbove_setLow s.w _ _

/-- Settles O39: each instruction runs, on its register, the operation of the memory forms. -/
theorem shiftAndCountRegister : Obligations.ShiftAndCountRegister := by
  intro p hp s hs
  obtain ⟨f, hfg, hexec⟩ : ∃ f : Rmw, f.Implements p.2.2 ∧ exec p.1 s = rmwRegOp f p.2.1 .nfRs s := by
    revert p
    simp only [List.forall_mem_cons]
    exact ⟨⟨_, rmwAsl_implements, rfl⟩, ⟨_, rmwLsr_implements, rfl⟩, ⟨_, rmwRol_implements, rfl⟩,
      ⟨_, rmwRor_implements, rfl⟩, ⟨_, rmwInc_implements, rfl⟩, ⟨_, rmwDec_implements, rfl⟩, ⟨_, rmwInc_implements, rfl⟩,
      ⟨_, rmwInc_implements, rfl⟩, ⟨_, rmwDec_implements, rfl⟩, ⟨_, rmwDec_implements, rfl⟩, List.forall_mem_nil _⟩
  exact modifiesRegister_of_implements hfg hexec hs

end Sys2Proof.Machine
end

section
/-! SUPPORT. The flag instructions and NOP, and the instructions and cells refused in every state (R413, R417, R418, R422, R426,
R434, R436, R438, R441, R445 to R448, R911). -/

namespace Sys2Proof.Machine

/-! ### Flag instructions -/

/-- An instruction that `CheckPrefix` alone can stop completes in an accepted state (R162). -/
theorem complete_of_accepted {l : Listed} {s : State} (hs : Accepted l s) (t : State) :
    complete (checkPrefixNoWidth l s) t = .next t := by
  rw [checkPrefixNoWidth_eq_none.mpr hs, complete_none]

/-- Settles O44: the eight instructions differ in their next state alone, and no check but `CheckPrefix` stands before it. -/
theorem flagInstructionResult : Obligations.FlagInstructionResult := by
  intro s hs
  refine ⟨?clc, ?sec, ?cli, ?sei, ?cld, ?sed, ?clv, ?nop⟩
  case clc => exact complete_of_accepted hs (s.setFlags { s.p with c := false })
  case sec => exact complete_of_accepted hs (s.setFlags { s.p with c := true })
  case cli => exact complete_of_accepted hs (s.setFlags { s.p with i := false })
  case sei => exact complete_of_accepted hs (s.setFlags { s.p with i := true })
  case cld => exact complete_of_accepted hs (s.setFlags { s.p with d := false })
  case sed => exact complete_of_accepted hs (s.setFlags { s.p with d := true })
  case clv => exact complete_of_accepted hs (s.setFlags { s.p with v := false })
  case nop => exact complete_of_accepted hs s

/-! ### Refusals that do not look at the state -/

/-- RTI stops with its refusal before `CheckPrefix` (R418, R913). -/
theorem exec_rti (s : State) : exec .rti s = .refused .rtiNotSpecified := rfl

/-- An operation the source does not describe is refused under its own mnemonic, whatever its operand (R911, D25). -/
theorem exec_unspecifiedForms (op : Word) (s : State) :
    ∀ p ∈ unspecifiedForms, exec (p.1 op) s = .refused (.notSpecified p.2) := List.map_inj_left.mp rfl

/-- Settles O47: neither refusal looks at the state. -/
theorem undescribedOperationsRefused : Obligations.UndescribedOperationsRefused :=
  fun op s => ⟨exec_rti s, exec_unspecifiedForms op s⟩

/-- Settles O48: over the list of cells, the outcomes and the refusals are one list, whatever the state. -/
theorem meaninglessCellsRefused : Obligations.MeaninglessCellsRefused :=
  fun _ => List.map_inj_left.mp rfl

end Sys2Proof.Machine
end

section
/-! SUPPORT. What BIT on A leaves in the flags and in the counter of free values (R164, R459, D36). -/

namespace Sys2Proof.Machine

/-- With NF=1 BIT on A changes nothing: it draws no free value either (R459). -/
theorem bitAccNext_of_nf {s : State} (hnf : s.ctx.nf = true) : bitAccNext s = s := if_pos hnf

/-- With NF=0 BIT on A takes N and Z from the low `w` bits of A, which the register read leaves as they are, and draws V
(R459, D36). -/
theorem bitAccNext_of_not_nf {s : State} (hw : s.w ≤ s.W) (hnf : ¬ s.ctx.nf = true) :
    bitAccNext s = { s with
      p := { s.p.withNZ s.w (value s.w s.a) with v := Config.freeBit s.draws }
      draws := s.draws + 1 } := by
  have hflags : setNZ s.w (s.reg .a) s.p = s.p.withNZ s.w (value s.w s.a) :=
    (setNZ_eq_withNZ s.w_pos _ _).trans (congrArg _ (State.value_reg hw .a))
  rw [bitAccNext, if_neg hnf, hflags]
  rfl

/-- Settles O30: an accepted state completes, and NF decides between the two next states. -/
theorem bitAccumulatorResult : Obligations.BitAccumulatorResult := by
  intro s hs
  have hexec : exec .bitAcc s = .next (bitAccNext s) := complete_eq_next.mpr ⟨checkPrefix_eq_none.mpr hs, rfl⟩
  rw [hexec]
  split
  case isTrue hnf => rw [bitAccNext_of_nf hnf]
  case isFalse hnf => rw [bitAccNext_of_not_nf hs.width hnf]

end Sys2Proof.Machine
end

section
/-! SUPPORT. The traps of BRK and TRP, the state at launch, and what LEA leaves (R494 to R529, R903 to R905, R940, D36). -/

namespace Sys2Proof.Machine

/-! ### Traps -/

/-- An event that an instruction raises once its checks pass is its outcome (R903, R904). -/
theorem complete_raise {check : Option Stop} (h : check = none) (event : Word → Word → Fault) (s : State) :
    complete (check.or (some (raise event s))) s = .fault (event s.start s.pc) := by
  rw [complete_or_of_none h]
  rfl

/-- Settles O46: what is checked before the trap passes. -/
theorem trapsRaise : Obligations.TrapsRaise :=
  fun op s => ⟨fun hs => complete_raise (checkPrefix_eq_none.mpr hs) (.trap .brk op) s,
    fun hs => complete_raise (checkPrefixNoWidth_eq_none.mpr hs) (.trap .trp op) s⟩

/-! ### Launch -/

/-- Settles O50: every register is zero, no location is listed, and the record is empty. -/
theorem resetIsSettled : Obligations.ResetIsSettled :=
  have zero_lt (k : Nat) : (0#64).toNat < 2 ^ k := Nat.two_pow_pos k
  { mem := State.reset_mem_wf
    a := zero_lt _
    x := zero_lt _
    y := zero_lt _
    sph := zero_lt _
    spu := zero_lt _
    br := zero_lt _
    e := zero_lt _
    pc := zero_lt _
    ctx := rfl
    start := rfl
    opcodeAt := rfl }

/-! ### LEA -/

/-- A form of LEA has no refusal of its own with OF=00 on the relative modes and AM=0 on the quad modes (D42, D43). -/
theorem leaRefusal_eq_none {mode : AddrMode} {c : Context} (hrel : mode = .relByte ∨ mode = .relWide → c.of = .none)
    (hquad : pointerSize mode false = 8 → c.am = false) : leaRefusal mode c = none := by
  cases mode with
  | relByte | relWide => simp [leaRefusal, refuseIf, hrel]
  | quadZp | quadZpX | quadZpY | quadAbs | quadAbsX | quadAbsY =>
    have ham : c.am = false := hquad rfl
    simp [leaRefusal, refuseIf, ham]
  | _ => rfl

/-- A form of LEA that is ready completes. -/
theorem exec_leaForms_ready {f : Form} (hf : f ∈ leaForms) {op : Word} {s : State} (hs : LeaReady f.listed f.mode op s) :
    exec (f.make op) s = .next (leaNext f.mode op s) := by
  rw [exec_leaForms op s f hf, leaOp, complete_or_of_none (checkPrefixNoWidth_eq_none.mpr hs.accepted),
    complete_or_of_none (leaRefusal_eq_none hs.rel hs.quad), checkZeroPage_eq_none.mpr hs.pageZero, complete_none]

/-- LEA puts the address's low `W` bits in E and, unless NF=1, draws N and then Z (R514, D36). -/
theorem leaNext_eq (mode : AddrMode) (op : Word) (s : State) : leaNext mode op s = { s with
    e := BitVec.ofNat 64 (value s.W (s.ea mode op))
    p := if s.ctx.nf = true then s.p else { s.p with n := Config.freeBit s.draws, z := Config.freeBit (s.draws + 1) }
    draws := if s.ctx.nf = true then s.draws else s.draws + 2 } := by
  rw [← low_eq_ofNat_value, leaNext]
  split <;> rfl

/-- Settles O45: a form that is ready completes, and every form has the same next state but for its address. -/
theorem leaResult : Obligations.LeaResult := by
  intro f hf op s hs
  rw [exec_leaForms_ready hf hs, leaNext_eq]

end Sys2Proof.Machine
end

section
/-! SUPPORT. What user mode uses of the machine: its own environment and its own stack pointer, whatever UM is. So it keeps its
mode, SPH and what its environment does not name (R30, R921 to R923). -/

namespace Sys2Proof.Machine

/-! ### What the fixed part decides -/

theorem State.modeNow_of_fixedPart {s t : State} (h : t.fixedPart = s.fixedPart) : t.modeNow = s.modeNow := by
  obtain ⟨hopts, -, -, hmode, -⟩ := State.fixedPart_eq_iff.mp h
  exact State.modeNow_congr hopts hmode

theorem State.locate_of_fixedPart {s t : State} (h : t.fixedPart = s.fixedPart) (env : Mode) (a : Word) :
    t.locate env a = s.locate env a := by
  obtain ⟨hopts, hmch, hmcu, -, -⟩ := State.fixedPart_eq_iff.mp h
  exact State.locate_congr hopts hmch hmcu env a

theorem State.hiddenFromUser_of_fixedPart {s t : State} (h : t.fixedPart = s.fixedPart) {loc : Nat} :
    t.hiddenFromUser loc ↔ s.hiddenFromUser loc := by
  simp only [State.hiddenFromUser, State.locate_of_fixedPart h]

/-! ### The environment and the stack of user mode -/

section
variable {s : State} (h : s.modeNow = .user)
include h

/-- In user mode every access is one to the user environment, whatever UM is (R158). -/
theorem State.envFor_of_user (um : Bool) : s.envFor um = .user := by
  cases um with
  | true => rfl
  | false => exact h

/-- In user mode `SP(um)` is the user stack pointer, whatever UM is (R23). -/
theorem State.usesUserStack_of_user (um : Bool) : s.usesUserStack um = true := by simp [State.usesUserStack, h]

theorem State.sp_of_user (um : Bool) : s.sp um = low s.W s.spu := by
  rw [State.sp, if_pos (State.usesUserStack_of_user h um)]

theorem State.setSp_of_user (um : Bool) (v : Word) : s.setSp um v = { s with spu := low s.W v } := by
  rw [State.setSp, if_pos (State.usesUserStack_of_user h um)]

end

/-! ### What user mode keeps -/

/-- `t` is a state of user mode with the fixed part, the SPH and the hidden bytes of `s`. -/
structure UserConfined (s t : State) : Prop where
  user : t.modeNow = .user
  fixed : t.fixedPart = s.fixedPart
  sph : t.sph = s.sph
  hidden : ∀ loc, s.hiddenFromUser loc → t.mem.read loc = s.mem.read loc

namespace UserConfined

theorem refl {s : State} (h : s.modeNow = .user) : UserConfined s s := ⟨h, rfl, rfl, fun _ _ => rfl⟩

variable {s t u : State} (h : UserConfined s t)
include h

/-- An update of other fields keeps what user mode keeps. -/
theorem update (hfixed : u.fixedPart = t.fixedPart) (hsph : u.sph = t.sph) (hmem : u.mem = t.mem) : UserConfined s u where
  user := (State.modeNow_of_fixedPart hfixed).trans h.user
  fixed := hfixed.trans h.fixed
  sph := hsph.trans h.sph
  hidden loc hloc := hmem ▸ h.hidden loc hloc

theorem withContext (c : Context) : UserConfined s { t with ctx := c } := h.update rfl rfl rfl
theorem fetched (k : Nat) : UserConfined s (t.fetched k) := h.update rfl rfl rfl
theorem setFlags (p : Flags) : UserConfined s (t.setFlags p) := h.update rfl rfl rfl
theorem updateFlags (p : Flags) : UserConfined s (t.updateFlags p) := h.update (by simp) (by simp) (by simp)
theorem drawn (k : Nat) : UserConfined s (t.drawn k) := h.update rfl rfl rfl
theorem setReg (r : Reg) (v : Word) : UserConfined s (t.setReg r v) := h.update (by simp) (by simp) (by simp)
theorem setPc (v : Word) : UserConfined s (t.setPc v) := h.update rfl rfl rfl
theorem setE (v : Word) : UserConfined s (t.setE v) := h.update rfl rfl rfl

/-- Only the user stack pointer moves. -/
theorem setSp (um : Bool) (v : Word) : UserConfined s (t.setSp um v) := by
  rw [State.setSp_of_user h.user]
  exact h.update rfl rfl rfl

/-- A write reaches only locations that an address of the user environment names. -/
theorem memWrite (um : Bool) (a : Word) (n : Nat) (v : Word) : UserConfined s (t.memWrite (t.envFor um) a n v) where
  user := (State.modeNow_of_fixedPart (t.fixedPart_memWrite _ a n v)).trans h.user
  fixed := (t.fixedPart_memWrite _ a n v).trans h.fixed
  sph := (t.memWrite_sph _ a n v).trans h.sph
  hidden loc hloc := by
    have hother : ∀ i < n, t.locate (t.envFor um) (a + BitVec.ofNat 64 i) ≠ loc := fun i _ => by
      rw [State.envFor_of_user h.user]
      exact (State.hiddenFromUser_of_fixedPart h.fixed).mpr hloc _
    rw [t.memWrite_read_other _ a n v loc hother]
    exact h.hidden loc hloc

theorem push (um : Bool) (k : Nat) (v : Word) : UserConfined s (t.push um k v) := (h.memWrite _ _ _ _).setSp _ _

theorem afterPull (um : Bool) (k : Nat) : UserConfined s (t.afterPull um k) := h.setSp _ _

theorem bitAccNext : UserConfined s (bitAccNext t) := by
  unfold Machine.bitAccNext
  split
  · exact h
  · exact (h.setFlags _).drawn 1

theorem leaNext (mode : AddrMode) (op : Word) : UserConfined s (leaNext mode op t) := by
  unfold Machine.leaNext
  split
  · exact h.setE _
  · exact ((h.setE _).setFlags _).drawn 2

theorem branchNext (taken : Bool) (op : Word) : UserConfined s (branchNext taken op t) := by
  unfold Machine.branchNext
  split
  · exact h.setPc _
  · exact h

/-- Whatever an instruction means, in user mode it keeps what user mode keeps if it completes. -/
theorem of_meaning {m : State → Outcome} (hm : Meaning m) (hnext : m t = .next u) : UserConfined s u := by
  cases hm with
  | prefix1 | prefix2 | extPage =>
    cases hnext
    exact h.withContext _
  | refuse => cases hnext
  | brk | trp => exact absurd hnext (complete_raise_ne_next _ _ _ _)
  | logic | adc | sbc | load | rmwReg | transfer | tsx => exact of_complete hnext ((h.setReg _ _).updateFlags _)
  | compare | flag => exact of_complete hnext (h.setFlags _)
  | bit => exact of_complete hnext (h.updateFlags _)
  | bitAcc => exact of_complete hnext h.bitAccNext
  | store | storeZero => exact of_complete hnext (h.memWrite _ _ _ _)
  | rmw => exact of_complete hnext ((h.memWrite _ _ _ _).updateFlags _)
  | txs => exact of_complete hnext (h.setSp _ _)
  | push | php => exact of_complete hnext (h.push _ _ _)
  | pull => exact of_complete hnext (((h.setReg _ _).afterPull _ _).updateFlags _)
  | plp => exact of_complete hnext ((h.afterPull _ _).setFlags _)
  | branch => exact of_complete hnext (h.branchNext _ _)
  | jmp => exact of_complete hnext (h.setPc _)
  | jsr | bsr => exact of_complete hnext ((h.push _ _ _).setPc _)
  | rts => exact of_complete hnext ((h.afterPull _ _).setPc _)
  | nop => exact of_complete hnext h
  | lea => exact of_complete hnext (h.leaNext _ _)

end UserConfined

/-- Settles O52: the first fetch, every unit and the end of the instruction keep what user mode keeps. -/
theorem userModeIsConfined : Obligations.UserModeIsConfined := by
  intro s t huser hstep
  have hbegin : UserConfined s s.beginInstr := (UserConfined.refl huser).update rfl rfl rfl
  obtain ⟨u, hu, rfl⟩ :=
    step_induction hbegin (fun i k _ _ hs hnext => (hs.fetched k).of_meaning (exec_meaning i) hnext) hstep
  exact ⟨hu.user, hu.sph, hu.hidden⟩

end Sys2Proof.Machine
end

section
/-! SUPPORT. What user mode can learn (R921, R923): two states of user mode that differ in SPH and in hidden locations alone
show the same to every operation, and every operation leaves two states that differ there alone. -/

namespace Sys2Proof.Machine

/-! ### Outcomes that agree -/

namespace Outcome.Agree

/-- Two outcomes that agree are related next states, the same fault or the same refusal. -/
theorem cases {r : State → State → Prop} {o o' : Outcome} (h : Outcome.Agree r o o') :
    (∃ s t, o = .next s ∧ o' = .next t ∧ r s t) ∨ (∃ f, o = .fault f ∧ o' = .fault f)
      ∨ ∃ c, o = .refused c ∧ o' = .refused c := by
  cases o with
  | next s =>
    cases o' with
    | next t => exact .inl ⟨s, t, rfl, rfl, h⟩
    | _ => exact h.elim
  | fault f =>
    cases o' with
    | fault g =>
      obtain rfl : f = g := h
      exact .inr (.inl ⟨f, rfl, rfl⟩)
    | _ => exact h.elim
  | refused c =>
    cases o' with
    | refused d =>
      obtain rfl : c = d := h
      exact .inr (.inr ⟨c, rfl, rfl⟩)
    | _ => exact h.elim

theorem mono {r r' : State → State → Prop} (hr : ∀ s t, r s t → r' s t) {o o' : Outcome} (h : Outcome.Agree r o o') :
    Outcome.Agree r' o o' := by
  obtain ⟨s, t, rfl, rfl, hst⟩ | ⟨f, rfl, rfl⟩ | ⟨c, rfl, rfl⟩ := h.cases
  · exact hr s t hst
  · rfl
  · rfl

/-- The same reason to stop, or none and related next states, are outcomes that agree. -/
theorem complete {r : State → State → Prop} {st st' : Option Stop} {s t : State} (hst : st' = st) (h : r s t) :
    Outcome.Agree r (complete st s) (complete st' t) := by
  subst hst
  obtain _ | _ | _ := st'
  · exact h
  · rfl
  · rfl

end Outcome.Agree

/-! ### Two states of user mode -/

/-- The state with another SPH and another memory. -/
def State.withHidden (s : State) (sph : Word) (m : Memory) : State := { s with sph := sph, mem := m }

/-- Two states of user mode, their memories in canonical form, that differ in what user mode cannot name and nowhere else. -/
structure UserPair (s t : State) : Prop where
  user : s.modeNow = .user
  wf_left : s.mem.wf = true
  wf_right : t.mem.wf = true
  same : SameForUser s t

namespace UserPair

variable {s t : State} (h : UserPair s t)
include h

/-- What depends neither on SPH nor on memory is the same in both states. -/
theorem congr {α : Type} (f : State → α) (hf : ∀ sph m, f (s.withHidden sph m) = f s) : f t = f s := by
  obtain ⟨sph, m, rfl, -⟩ := h.same
  exact hf sph m

/-- An update that neither reads nor writes SPH and memory keeps the difference where it is. -/
theorem map (f : State → State) (hf : ∀ sph m, f (s.withHidden sph m) = (f s).withHidden sph m)
    (hfixed : (f s).fixedPart = s.fixedPart) (hmem : (f s).mem = s.mem) : UserPair (f s) (f t) := by
  obtain ⟨sph, m, rfl, hvisible⟩ := h.same
  refine ⟨(State.modeNow_of_fixedPart hfixed).trans h.user, hmem ▸ h.wf_left, (hf sph m).symm ▸ h.wf_right,
    sph, m, hf sph m, fun loc hloc => ?_⟩
  rw [hmem]
  exact hvisible loc fun hhidden => hloc ((State.hiddenFromUser_of_fixedPart hfixed).mpr hhidden)

/-! ### What both states show -/

theorem opts : t.opts = s.opts := h.congr (·.opts) fun _ _ => rfl
theorem p : t.p = s.p := h.congr (·.p) fun _ _ => rfl
theorem pc : t.pc = s.pc := h.congr (·.pc) fun _ _ => rfl
theorem e : t.e = s.e := h.congr (·.e) fun _ _ => rfl
theorem ctx : t.ctx = s.ctx := h.congr (·.ctx) fun _ _ => rfl
theorem draws : t.draws = s.draws := h.congr (·.draws) fun _ _ => rfl
theorem W : t.W = s.W := h.congr (·.W) fun _ _ => rfl
theorem n : t.n = s.n := h.congr (·.n) fun _ _ => rfl
theorem w : t.w = s.w := h.congr (·.w) fun _ _ => rfl
theorem addr (v : Word) : t.addr v = s.addr v := h.congr (·.addr v) fun _ _ => rfl
theorem reg (r : Reg) : t.reg r = s.reg r := h.congr (·.reg r) fun _ _ => by cases r <;> rfl
theorem leEff (d : LoadExt) : t.leEff d = s.leEff d := h.congr (·.leEff d) fun _ _ => rfl
theorem opWidth (le : LoadExt) : t.opWidth le = s.opWidth le := h.congr (·.opWidth le) fun _ _ => rfl
theorem extend (le : LoadExt) (m : Word) : t.extend le m = s.extend le m := h.congr (·.extend le m) fun _ _ => rfl
theorem loaded (old m : Word) : t.loaded old m = s.loaded old m := h.congr (·.loaded old m) fun _ _ => rfl
theorem retBytes : t.retBytes = s.retBytes := h.congr (·.retBytes) fun _ _ => rfl
theorem user_right : t.modeNow = .user := (h.congr (·.modeNow) fun _ _ => rfl).trans h.user

/-- The stack pointer of user mode is not SPH. -/
theorem sp (um : Bool) : t.sp um = s.sp um := by
  rw [State.sp_of_user h.user_right, State.sp_of_user h.user]
  exact h.congr (fun u => low u.W u.spu) fun _ _ => rfl

/-- A location that a user-mode address names is not hidden. -/
theorem byteAt (a : Word) : t.byteAt .user a = s.byteAt .user a := by
  obtain ⟨sph, m, rfl, hvisible⟩ := h.same
  exact hvisible _ fun hhidden => hhidden a rfl

theorem memRead_user (a : Word) (n : Nat) : t.memRead .user a n = s.memRead .user a n := by
  induction n generalizing a with
  | zero => rfl
  | succ n ih => rw [State.memRead, State.memRead, ih, h.byteAt]

theorem memRead (um : Bool) (a : Word) (n : Nat) : t.memRead (t.envFor um) a n = s.memRead (s.envFor um) a n := by
  rw [State.envFor_of_user h.user, State.envFor_of_user h.user_right, h.memRead_user]

theorem loadBytes (a : Word) (k : Nat) : t.loadBytes .user a k = s.loadBytes .user a k := by
  induction k generalizing a with
  | zero => rfl
  | succ k ih => rw [State.loadBytes, State.loadBytes, ih, h.byteAt]

theorem fetchUnit : t.fetchUnit = s.fetchUnit := by
  have hwindow : t.fetchWindow = s.fetchWindow := by
    rw [State.fetchWindow, State.fetchWindow, State.cur, State.cur, h.user, h.user_right, h.pc, h.loadBytes]
  simp only [State.fetchUnit, hwindow, h.opts, h.ctx]

theorem pushAddr (um : Bool) (k : Nat) : t.pushAddr um k = s.pushAddr um k := by
  simp only [State.pushAddr, h.opts, h.W, h.sp]

theorem pulled (um : Bool) (k : Nat) : t.pulled um k = s.pulled um k := by
  have haddr : t.pullAddr um = s.pullAddr um := by simp only [State.pullAddr, h.opts, h.W, h.sp]
  rw [State.pulled, State.pulled, haddr, h.memRead]

theorem offReg : t.offReg = s.offReg := by
  have hpc : t.pcRel = s.pcRel := h.congr (·.pcRel) fun _ _ => rfl
  have hbr : t.br = s.br := h.congr (·.br) fun _ _ => rfl
  simp only [State.offReg, h.ctx, h.addr, hpc, h.sp, h.W, hbr]

theorem directEA (mode : AddrMode) (op : Word) : directEA mode op t = directEA mode op s := by
  have hindex : t.indexBefore mode = s.indexBefore mode := h.congr (·.indexBefore mode) fun _ _ => rfl
  rw [Machine.directEA, Machine.directEA, h.addr, h.offReg, hindex]

/-- Only the offset register and a stored address could depend on SPH or memory. -/
theorem ea (mode : AddrMode) (op : Word) : t.ea mode op = s.ea mode op := by
  have hindex : t.indexAfter mode = s.indexAfter mode := h.congr (·.indexAfter mode) fun _ _ => rfl
  have hoffset : relOffset mode op t = relOffset mode op s := h.congr (relOffset mode op) fun _ _ => rfl
  simp only [State.ea, effectiveAddress, h.memRead, h.directEA, h.addr, h.ctx, h.W, h.e, h.pc, hindex, hoffset]

theorem readOp (mode : AddrMode) (op : Word) : t.readOp mode op = s.readOp mode op := by
  simp only [State.readOp, h.memRead, h.ea, h.ctx, h.w, h.n]

/-! ### What both states become -/

theorem withContext (c : Context) : UserPair { s with ctx := c } { t with ctx := c } :=
  h.map (fun u => { u with ctx := c }) (fun _ _ => rfl) rfl rfl
theorem beginInstr : UserPair s.beginInstr t.beginInstr := h.map (·.beginInstr) (fun _ _ => rfl) rfl rfl
theorem fetched (k : Nat) : UserPair (s.fetched k) (t.fetched k) := h.map (·.fetched k) (fun _ _ => rfl) rfl rfl
theorem endInstr : UserPair s.endInstr t.endInstr := h.map (·.endInstr) (fun _ _ => rfl) rfl rfl
theorem setFlags (q : Flags) : UserPair (s.setFlags q) (t.setFlags q) := h.map (·.setFlags q) (fun _ _ => rfl) rfl rfl
theorem drawn (k : Nat) : UserPair (s.drawn k) (t.drawn k) := h.map (·.drawn k) (fun _ _ => rfl) rfl rfl
theorem setPc (v : Word) : UserPair (s.setPc v) (t.setPc v) := h.map (·.setPc v) (fun _ _ => rfl) rfl rfl
theorem setE (v : Word) : UserPair (s.setE v) (t.setE v) := h.map (·.setE v) (fun _ _ => rfl) rfl rfl

theorem setReg (r : Reg) (v : Word) : UserPair (s.setReg r v) (t.setReg r v) :=
  h.map (·.setReg r v) (fun _ _ => by cases r <;> rfl) (by simp) (by simp)

theorem updateFlags (q : Flags) : UserPair (s.updateFlags q) (t.updateFlags q) := by
  rw [State.updateFlags, State.updateFlags, h.ctx]
  split
  · exact h
  · exact h.setFlags q

theorem setSp (um : Bool) (v : Word) : UserPair (s.setSp um v) (t.setSp um v) := by
  rw [State.setSp_of_user h.user, State.setSp_of_user h.user_right]
  exact h.map (fun u => { u with spu := low u.W v }) (fun _ _ => rfl) rfl rfl

/-- A byte written to the user environment goes to the same location in both memories. -/
theorem setByte (a : Word) (b : Byte) : UserPair (s.setByte .user a b) (t.setByte .user a b) := by
  have hright : (t.setByte .user a b).mem.wf = true := Memory.wf_write h.wf_right _ _
  have hm := h.wf_right
  obtain ⟨sph, m, rfl, hvisible⟩ := h.same
  refine ⟨h.user, Memory.wf_write h.wf_left _ _, hright, sph, m.write (s.locate .user a) b, rfl, fun loc hloc => ?_⟩
  change (m.write (s.locate .user a) b).read loc = (s.mem.write (s.locate .user a) b).read loc
  rw [Memory.read_write hm, Memory.read_write h.wf_left, hvisible loc hloc]

theorem memWrite_user (a : Word) (n : Nat) (v : Word) : UserPair (s.memWrite .user a n v) (t.memWrite .user a n v) := by
  induction n generalizing s t a v with
  | zero => exact h
  | succ n ih => exact ih (h.setByte a _) _ _

theorem memWrite (um : Bool) (a : Word) (n : Nat) (v : Word) :
    UserPair (s.memWrite (s.envFor um) a n v) (t.memWrite (t.envFor um) a n v) := by
  rw [State.envFor_of_user h.user, State.envFor_of_user h.user_right]
  exact h.memWrite_user a n v

theorem push (um : Bool) (k : Nat) (v : Word) : UserPair (s.push um k v) (t.push um k v) := by
  rw [State.push, State.push, h.pushAddr, h.sp]
  exact (h.memWrite um _ k v).setSp um _

theorem afterPull (um : Bool) (k : Nat) : UserPair (s.afterPull um k) (t.afterPull um k) := by
  rw [State.afterPull, State.afterPull, h.sp]
  exact h.setSp um _

/-! ### Next states -/

theorem logicNext (f : Word → Word → Word) (mode : AddrMode) (op : Word) :
    UserPair (logicNext f mode op s) (logicNext f mode op t) := by
  simp only [Machine.logicNext, h.leEff, h.opWidth, h.extend, h.readOp, h.reg, h.p]
  exact (h.setReg _ _).updateFlags _

theorem adcNext (mode : AddrMode) (op : Word) : UserPair (adcNext mode op s) (adcNext mode op t) := by
  simp only [Machine.adcNext, h.leEff, h.opWidth, h.extend, h.readOp, h.reg, h.p]
  exact (h.setReg _ _).updateFlags _

theorem sbcNext (mode : AddrMode) (op : Word) : UserPair (sbcNext mode op s) (sbcNext mode op t) := by
  simp only [Machine.sbcNext, h.leEff, h.opWidth, h.extend, h.readOp, h.reg, h.p]
  exact (h.setReg _ _).updateFlags _

theorem compareNext (r : Reg) (mode : AddrMode) (op : Word) :
    UserPair (compareNext r mode op s) (compareNext r mode op t) := by
  simp only [Machine.compareNext, h.leEff, h.opWidth, h.extend, h.readOp, h.reg, h.p]
  exact h.setFlags _

theorem bitNext (f : Nat → Word → Word → Flags → Flags) (mode : AddrMode) (op : Word) :
    UserPair (bitNext f mode op s) (bitNext f mode op t) := by
  simp only [Machine.bitNext, h.leEff, h.opWidth, h.extend, h.readOp, h.reg, h.p]
  exact h.updateFlags _

theorem bitAccNext : UserPair (bitAccNext s) (bitAccNext t) := by
  simp only [Machine.bitAccNext, h.ctx, h.w, h.reg, h.p, h.draws]
  split
  · exact h
  · exact (h.setFlags _).drawn 1

theorem loadNext (r : Reg) (mode : AddrMode) (op : Word) : UserPair (loadNext r mode op s) (loadNext r mode op t) := by
  simp only [Machine.loadNext, h.w, h.loaded, h.readOp, h.reg, h.p]
  exact (h.setReg _ _).updateFlags _

theorem storeNext (v : Word) (mode : AddrMode) (op : Word) : UserPair (storeNext v mode op s) (storeNext v mode op t) := by
  simp only [Machine.storeNext, h.ctx, h.ea, h.n]
  exact h.memWrite _ _ _ _

theorem rmwNext (f : Rmw) (mode : AddrMode) (op : Word) : UserPair (rmwNext f mode op s) (rmwNext f mode op t) := by
  simp only [Machine.rmwNext, h.ctx, h.memRead, h.ea, h.n, h.w, h.reg, h.p]
  exact (h.memWrite _ _ _ _).updateFlags _

theorem rmwRegNext (f : Rmw) (r : Reg) : UserPair (rmwRegNext f r s) (rmwRegNext f r t) := by
  simp only [Machine.rmwRegNext, h.w, h.reg, h.p]
  exact (h.setReg _ _).updateFlags _

theorem transferNext (src : Word) (r : Reg) : UserPair (transferNext src r s) (transferNext src r t) := by
  simp only [Machine.transferNext, h.w, h.loaded, h.reg, h.p]
  exact (h.setReg _ _).updateFlags _

theorem txsNext : UserPair (txsNext s) (txsNext t) := by
  simp only [Machine.txsNext, h.ctx, h.w, h.loaded, h.reg, h.sp]
  exact h.setSp _ _

theorem pushNext (v : Word) : UserPair (pushNext v s) (pushNext v t) := by
  simp only [Machine.pushNext, h.ctx, h.n]
  exact h.push _ _ _

theorem phpNext : UserPair (phpNext s) (phpNext t) := by
  simp only [Machine.phpNext, h.ctx, h.p]
  exact h.push _ _ _

theorem pullNext (r : Reg) : UserPair (pullNext r s) (pullNext r t) := by
  simp only [Machine.pullNext, h.ctx, h.n, h.w, h.pulled, h.loaded, h.reg, h.p]
  exact ((h.setReg _ _).afterPull _ _).updateFlags _

theorem plpNext : UserPair (plpNext s) (plpNext t) := by
  simp only [Machine.plpNext, h.pulled]
  exact (h.afterPull _ _).setFlags _

theorem branchNext (taken : Bool) (op : Word) : UserPair (branchNext taken op s) (branchNext taken op t) := by
  simp only [Machine.branchNext, h.ea]
  split
  · exact h.setPc _
  · exact h

theorem jump (mode : AddrMode) (op : Word) : UserPair (s.setPc (s.ea mode op)) (t.setPc (t.ea mode op)) := by
  rw [h.ea]
  exact h.setPc _

theorem call (mode : AddrMode) (op : Word) :
    UserPair ((pushReturn s).setPc (s.ea mode op)) ((pushReturn t).setPc (t.ea mode op)) := by
  simp only [pushReturn, h.retBytes, h.addr, h.pc, h.ea]
  exact (h.push _ _ _).setPc _

theorem rtsNext : UserPair (rtsNext s) (rtsNext t) := by
  simp only [Machine.rtsNext, h.retBytes, h.pulled]
  exact (h.afterPull _ _).setPc _

theorem leaNext (mode : AddrMode) (op : Word) : UserPair (leaNext mode op s) (leaNext mode op t) := by
  simp only [Machine.leaNext, h.ctx, h.ea, h.p, h.draws]
  split
  · exact h.setE _
  · exact ((h.setE _).setFlags _).drawn 2

/-! ### Every unit, every step -/

/-- Whatever an instruction means, the two states stop for one reason or go on to two such states: no check reads SPH or
memory. -/
theorem agree_of_meaning {m : State → Outcome} (hm : Meaning m) : Outcome.Agree UserPair (m s) (m t) := by
  cases hm with
  | prefix1 f =>
    simp only [execPrefix1, h.ctx]
    exact h.withContext _
  | prefix2 f =>
    simp only [execPrefix2, h.ctx]
    exact h.withContext _
  | extPage =>
    simp only [execExtPage, h.ctx]
    exact h.withContext _
  | refuse r => rfl
  | brk op =>
    exact .complete (h.congr (fun u => (checkPrefix .onlyRs u).or (some (raise (.trap .brk op) u))) fun _ _ => rfl) h
  | trp op =>
    exact .complete
      (h.congr (fun u => (checkPrefixNoWidth .nothing u).or (some (raise (.trap .trp op) u))) fun _ _ => rfl) h
  | logic => exact .complete (h.congr _ fun _ _ => rfl) (h.logicNext _ _ _)
  | adc => exact .complete (h.congr _ fun _ _ => rfl) (h.adcNext _ _)
  | sbc => exact .complete (h.congr _ fun _ _ => rfl) (h.sbcNext _ _)
  | compare => exact .complete (h.congr _ fun _ _ => rfl) (h.compareNext _ _ _)
  | bit => exact .complete (h.congr _ fun _ _ => rfl) (h.bitNext _ _ _)
  | bitAcc => exact .complete (h.congr _ fun _ _ => rfl) h.bitAccNext
  | load => exact .complete (h.congr _ fun _ _ => rfl) (h.loadNext _ _ _)
  | store r => exact .complete (h.congr _ fun _ _ => rfl) (h.reg r ▸ h.storeNext _ _ _)
  | storeZero => exact .complete (h.congr _ fun _ _ => rfl) (h.storeNext _ _ _)
  | rmw => exact .complete (h.congr _ fun _ _ => rfl) (h.rmwNext _ _ _)
  | rmwReg => exact .complete (h.congr _ fun _ _ => rfl) (h.rmwRegNext _ _)
  | transfer src => exact .complete (h.congr _ fun _ _ => rfl) (h.reg src ▸ h.transferNext _ _)
  | tsx =>
    have hsrc : t.sp t.ctx.um = s.sp s.ctx.um := by rw [h.ctx, h.sp]
    exact .complete (h.congr _ fun _ _ => rfl) (hsrc ▸ h.transferNext _ _)
  | txs => exact .complete (h.congr _ fun _ _ => rfl) h.txsNext
  | push r => exact .complete (h.congr _ fun _ _ => rfl) (h.reg r ▸ h.pushNext _)
  | pull => exact .complete (h.congr _ fun _ _ => rfl) (h.pullNext _)
  | php =>
    exact .complete
      (h.congr (fun u => (checkPrefixNoWidth .rsUm u).or (refuseIf (u.ctx.rs != .b8) .phpWidth)) fun _ _ => rfl) h.phpNext
  | plp => exact .complete (h.congr _ fun _ _ => rfl) h.plpNext
  | branch => exact .complete (h.congr _ fun _ _ => rfl) (h.p ▸ h.branchNext _ _)
  | jmp => exact .complete (h.congr _ fun _ _ => rfl) (h.jump _ _)
  | jsr => exact .complete (h.congr _ fun _ _ => rfl) (h.call _ _)
  | bsr l =>
    exact .complete (h.congr (fun u => (checkPrefixNoWidth l u).or (checkReturn u)) fun _ _ => rfl) (h.call _ _)
  | rts =>
    exact .complete (h.congr (fun u => (checkPrefixNoWidth .onlyRs u).or (checkReturn u)) fun _ _ => rfl) h.rtsNext
  | flag => exact .complete (h.congr _ fun _ _ => rfl) (h.p ▸ h.setFlags _)
  | nop => exact .complete (h.congr _ fun _ _ => rfl) h
  | lea mode op own =>
    have hstop := h.congr
      (fun u => (checkPrefixNoWidth .nfUmOfAm u).or ((own u.ctx.of u.ctx.am).or (checkZeroPage mode op u))) fun _ _ => rfl
    exact .complete hstop (h.leaNext mode op)

/-- The units of an instruction are the same in both states, and each keeps them such a pair. -/
theorem runUnits (n : Nat) : Outcome.Agree UserPair (runUnits n s) (runUnits n t) := by
  induction n generalizing s t with
  | zero => rfl
  | succ n ih =>
    rw [Machine.runUnits, Machine.runUnits, h.fetchUnit, h.ctx]
    split
    · rfl
    next i k _ =>
    obtain ⟨u, v, hs, ht, huv⟩ | ⟨f, hs, ht⟩ | ⟨r, hs, ht⟩ := ((h.fetched k).agree_of_meaning (exec_meaning i)).cases
    · rw [hs, ht]
      dsimp only
      split
      · exact ih huv
      · exact huv.endInstr
    · rw [hs, ht]
      rfl
    · rw [hs, ht]
      rfl

end UserPair

/-- Settles O53: from the first fetch on, each unit runs on two states that show it the same. -/
theorem userModeLearnsNothing : Obligations.UserModeLearnsNothing := by
  intro s t huser hs ht hsame
  have hpair : UserPair s t := ⟨huser, hs, ht, hsame⟩
  exact (hpair.beginInstr.runUnits 4).mono fun _ _ h => h.same

end Sys2Proof.Machine
end
